-- ==== Sys2Proof/Word.lean ====
section
/-! DEFINITION. The widths of the framer: a byte on the wire, a 16-bit unit or request word, and a cell.
Everything the block computes is an unsigned bit pattern (00_scope.md section 7, R68). -/

namespace Sys2Proof

/-- One byte handed to the transport, or one response word (R61). -/
abbrev Byte := BitVec 8

/-- A 16-bit value: a request word (R60), a command word (R51), a frame header (R52), or the staging register (R22). -/
abbrev Word := BitVec 16

/-- One Cell of the Framebuffer (R11): four bits, written as a 4-bit value whose bit 3 is bit index 0
(00_scope.md section 7, "Framebuffer bit order"). -/
abbrev Cell := BitVec 4

end Sys2Proof
end

