-- ==== Sys2Proof/Config.lean ====
section
/-! DEFINITION. What an implementation fixes (00_scope.md section 4) and the free values.
The parameters are fields of a structure that State carries and no step writes, so that a claim about every state is a
claim about every value of them; the values the spec leaves open with no default, and the values it calls unspecified,
are opaque constants. -/

namespace Sys2Proof

/-- `LEN_8` of 00_scope.md section 4: the length of the two 8-cell modes. -/
def lenEight : Nat := 64

/-- `LEN_16` of 00_scope.md section 4: the length of the two 16-cell modes. -/
def lenSixteen : Nat := 96

/-- `LEN_DEFAULT` of 00_scope.md section 4: "the default length of 96". -/
def lenDefault : Nat := 96

/-- `FB_CELLS_PHYS` of 00_scope.md section 4 (R12): the store is built for the larger length. -/
abbrev physCells : Nat := 96

/-- `CMD_PAD` (R54): the five padding bits of a command word are zero. -/
def cmdPad : BitVec 5 := 0

/-- `START_ADDR` of 00_scope.md section 4 (R91): the start address is the constant 0. -/
def startAddr : BitVec 7 := 0

/-- The Framebuffer Store's physical cells (R12). -/
abbrev Store := Vector Cell physCells

/-- The implementation parameters of 00_scope.md section 4. -/
structure Config where
  /-- `CMD_CLASS`: the class identifier of a command word. -/
  cmdClass : BitVec 3
  /-- `WR_CLASS`: the class identifier of a frame header. -/
  wrClass : BitVec 3
  /-- `OPC_SYS_DIS`: system-disable. -/
  opcSysDis : BitVec 8
  /-- `OPC_MASTER`: master-mode. -/
  opcMaster : BitVec 8
  /-- `OPC_RC_CLK`: on-chip-clock. -/
  opcRcClk : BitVec 8
  /-- `OPC_SYS_EN`: system-enable. -/
  opcSysEn : BitVec 8
  /-- `OPC_LED_ON`: LED-enable. -/
  opcLedOn : BitVec 8
  /-- `OPC_BLINK_OFF`: blink-disable. -/
  opcBlinkOff : BitVec 8
  /-- `OPC_PWM_BASE`: the PWM opcode, its low four bits zero (R55). -/
  opcPwmBase : BitVec 8
  /-- `MODE_8N`: 8-cell-NMOS. -/
  mode8N : BitVec 8
  /-- `MODE_8P`: 8-cell-PMOS. -/
  mode8P : BitVec 8
  /-- `MODE_16N`: 16-cell-NMOS. -/
  mode16N : BitVec 8
  /-- `MODE_16P`: 16-cell-PMOS. -/
  mode16P : BitVec 8
  /-- `COMS_OPCODE` as plain data: the pairs (mode, opcode) at which it differs from the identity. Every total function
  from an 8-bit mode to an 8-bit opcode has such a table. -/
  comsTable : List (BitVec 8 × BitVec 8)
  /-- `DEFAULT_DUTY`: the duty of bring-up's eighth command. -/
  defaultDuty : BitVec 4
  /-- `ALLOC_CAN_FAIL` (R136): whether `INIT` takes an allocation answer. -/
  allocCanFail : Bool
  /-- `GUARD_KEY` (R132): the name of the lock. No rule reads it. -/
  guardKey : Nat
  deriving DecidableEq, Repr

/-- `COMS_OPCODE` (R59, R63): the opcode of the commons-mode command for a mode value, a total function, unconstrained
outside the four modes. -/
def Config.comsOpcode (c : Config) (mode : BitVec 8) : BitVec 8 :=
  (c.comsTable.lookup mode).getD mode

/-- What 00_scope.md section 4 asks of the parameters: four distinct modes, and the low four bits of `OPC_PWM_BASE` zero. -/
def Config.wf (c : Config) : Bool :=
  decide [c.mode8N, c.mode8P, c.mode16N, c.mode16P].Nodup && c.opcPwmBase.extractLsb' 0 4 == 0

/-- The opcodes of the ten named commands other than the PWM-duty command (R58). -/
def Config.namedOpcodes (c : Config) : List (BitVec 8) :=
  [c.opcSysDis, c.comsOpcode c.mode8N, c.comsOpcode c.mode8P, c.comsOpcode c.mode16N, c.comsOpcode c.mode16P,
    c.opcMaster, c.opcRcClk, c.opcSysEn, c.opcLedOn, c.opcBlinkOff]

/-- Whether an opcode is one of the sixteen PWM-duty opcodes (R55). -/
def Config.isPwm (c : Config) (opcode : BitVec 8) : Bool :=
  opcode.extractLsb' 4 4 == c.opcPwmBase.extractLsb' 4 4

/-- The words of the wire can be told apart: the two class identifiers differ, the named opcodes are pairwise distinct
and none is a PWM-duty opcode. No source says so of the real chip (91_not_in_source.md N3); it is a premise of the
claims about reading wire words back, and of nothing else. -/
def Config.distinct (c : Config) : Bool :=
  c.wf && c.cmdClass != c.wrClass && decide c.namedOpcodes.Nodup && c.namedOpcodes.all fun o => !c.isPwm o

/-- `DEFAULT_DUTY` is open with no default (D18): a free value. -/
opaque Config.openDuty : BitVec 4

/-- `GUARD_KEY` is open with no default (D20): a free value. -/
opaque Config.openGuardKey : Nat

/-- The answer of `open` when no answer is listed: a free value of the draw's number (R4, log 8). -/
opaque Config.openAnswer : Nat → Bool

/-- The allocation's answer when none is listed: a free value (R136, log 8). -/
opaque Config.allocAnswer : Nat → Bool

/-- The answer of `writeBytes` when none is listed: a free value (R137, R147, log 8). -/
opaque Config.writeAnswer : Nat → Bool

/-- The contents of a store that was given up: unspecified (R112, I12, log 7). -/
opaque Config.freeStore : Nat → Store

/-- What `STG` reads between units, where it holds no value (R22, log 7). -/
opaque Config.freeStaging : Nat → Word

/-- What `CUR` reads outside a frame, where it holds no value (R20, log 7). -/
opaque Config.freeCursor : Nat → Nat

/-- What `ACC` reads outside a frame, where it holds no value (R21, log 7). -/
opaque Config.freeAccumulator : Nat → Byte

/-- What `NB` reads outside a frame, where it holds no value (R21, log 7). -/
opaque Config.freeBitCount : Nat → Nat

/-- PRESUMED. The default parameter values of 00_scope.md section 4, each marked there `[from general knowledge, not in
source]` (93_implementation_defined.md G2, G3; log 3), with the given duty and lock name. `COMS_OPCODE` is the identity.
DESIGN CHOICE: `ALLOC_CAN_FAIL` is true, which admits the AllocationError draw (R136, log 4). -/
def Config.defaults (duty : BitVec 4) (key : Nat) : Config where
  cmdClass := 0b100#3
  wrClass := 0b101#3
  opcSysDis := 0x00#8
  opcMaster := 0x14#8
  opcRcClk := 0x18#8
  opcSysEn := 0x01#8
  opcLedOn := 0x03#8
  opcBlinkOff := 0x08#8
  opcPwmBase := 0xA0#8
  mode8N := 0x20#8
  mode8P := 0x28#8
  mode16N := 0x24#8
  mode16P := 0x2C#8
  comsTable := []
  defaultDuty := duty
  allocCanFail := true
  guardKey := key

/-- The parameters State.reset carries: the defaults, with the two values that have none left free. -/
def Config.reset : Config := Config.defaults Config.openDuty Config.openGuardKey

end Sys2Proof
end

