-- ==== Sys2Proof/Machine/State.lean ====
section
/-! DEFINITION. The machine's state, its reasons to stop, and the state after reset (10_state.md).
The fields fall in four groups: the block's own registers (R10), the environment a model carries beside them (R23), the
interfaces and the environment's inputs as plain data (R3, R4, R120), and the model's own bookkeeping. -/

namespace Sys2Proof.Machine

/-- The lifecycle states (R16, R105). -/
inductive Lifecycle where
  | uninitialized
  | disabled
  | configuring
  | active
  | closed
  deriving DecidableEq, Repr

/-- The phases of the transaction sequencer (R19). -/
inductive Phase where
  /-- `T_IDLE`: no transaction is open. -/
  | idle
  /-- `T_WAIT`: the lock has been asked for. -/
  | wait
  /-- `T_LOCKED`: the lock is held, chip-select not yet asserted. -/
  | locked
  /-- `T_SELECTED`: chip-select is asserted. -/
  | selected
  /-- `T_DESELECTED`: chip-select is deasserted again, the lock still held. -/
  | deselected
  deriving DecidableEq, Repr

/-- The owner of the named lock (R23 a). -/
inductive Guard where
  | free
  | framer
  | other
  deriving DecidableEq, Repr

/-- The events of the guard and transport interfaces (R120). `openCall` and `write` carry the environment's answer: a
failed write "is still in the trace as a `Write(bytes)` event marked failed" (R125). -/
inductive Event where
  | guardRequest
  | guardGrant
  | guardRelease
  | openCall (ok : Bool)
  | closeCall
  | selectAssert
  | selectDeassert
  | write (bytes : List Byte) (ok : Bool)
  deriving DecidableEq, Repr

/-- The statuses of a response (R142). -/
inductive Status where
  | ok
  | transportInitError
  | allocationError
  | transportWriteError
  | badState
  | illegalRequest
  deriving DecidableEq, Repr

/-- Whose move comes next (R3, log 9). -/
inductive Turn where
  /-- The framer takes one step, or the host's request is accepted. -/
  | framer
  /-- Another bus user takes the lock, if it is free: `GUARD: Free -> Other` (R132). -/
  | otherTakes
  /-- Another bus user gives the lock back: `GUARD: Other -> Free` (R132). -/
  | otherReleases
  /-- Nobody moves; the machine's step ends here, in the middle of a request or not. -/
  | pause
  /-- The reset input (R155). -/
  | reset
  deriving DecidableEq, Repr

/-- The steps a request is made of: the pseudocode's lines, one step each, one per interface event (D12). -/
inductive Micro where
  /-- `INIT`'s acquisition of transport, pin and store (R106, R107). -/
  | acquire (mode : BitVec 8)
  /-- `LCS <- Configuring` (R108). -/
  | enterConfiguring
  /-- Stage a command word and swap it (R80, R81). -/
  | stageCommand (opcode : BitVec 8)
  /-- Stage the commons-mode command for the latched mode, `COMS_OPCODE(x[MODE])` (R108). -/
  | stageCommonsMode
  /-- Stage the frame header and swap it (R91, R92). -/
  | stageHeader
  /-- Request the lock (R122). -/
  | requestGuard
  /-- Be granted the lock (R123). -/
  | takeGrant
  /-- Assert chip-select (R124). -/
  | assertSelect
  /-- Write the staged 16-bit unit of a command (R125). -/
  | writeStaged
  /-- Write the staged frame header; the cursor becomes 1, and the data loop follows (R92, R93). -/
  | writeHeader
  /-- Assemble and write one data byte; the loop goes on after a full byte (R93 to R95). -/
  | writeData
  /-- Write a header unit with the six data bits given (R91, R92), as an instruction of its own. -/
  | sendHeader (data : BitVec 6)
  /-- Write the data byte given, `bits` of its positions filled (R94, R95), as an instruction of its own. -/
  | sendByte (byte : Byte) (bits : Nat)
  /-- Deassert chip-select (R126). -/
  | deassertSelect
  /-- Release the lock (R127). -/
  | releaseGuard
  /-- Raise `TransportWriteError` if a write of the transaction failed (R85, R100). -/
  | checkWrite
  /-- `INIT`'s clear of the Framebuffer (R108). -/
  | clearStore
  /-- `LCS <- Active` (R109). -/
  | enterActive
  /-- `INIT`'s `fail`: give back what was acquired (R110). -/
  | giveUp
  /-- Complete the request (R61, R131). -/
  | respond (status : Status) (bit : Bool)
  deriving DecidableEq, Repr

/-- Why the machine stops with a fault. -/
inductive Fault where
  /-- Raised by HDRW, DATB and DATB_LAST when `TS` is not `T_SELECTED` (R125's precondition: the block writes units only
  inside a transaction, R121). Safe: the machine stops where the block never is. -/
  | notInTransaction
  /-- Raised by the command words when `TS` is not `T_IDLE` (R122's precondition). Safe: the machine stops where the
  block never is. -/
  | transactionOpen
  deriving DecidableEq, Repr

/-- Why the machine gives an instruction or an input no meaning. -/
inductive Refusal where
  /-- Raised by a dispatch arm that has no meaning yet; no arm of this model raises it. Safe. -/
  | notModelled (mnemonic : String)
  /-- Raised by a reset while a request is in progress: "a model should refuse (give no meaning to) a reset while
  `BUSY = 1`" (R155). Safe. -/
  | resetWhileBusy
  deriving DecidableEq, Repr

/-- The state of the machine. -/
structure State where
  /-- `FB`: the Framebuffer Store, 96 physical cells (R11, R12). -/
  fb : Store
  /-- `LCS` (R16). -/
  lcs : Lifecycle
  /-- `MODE` (R17). -/
  mode : BitVec 8
  /-- `LEN` (R18). -/
  len : Nat
  /-- `CS`: chip-select is asserted (R19). -/
  cs : Bool
  /-- `GH`: the framer holds the lock (R19). -/
  gh : Bool
  /-- `TS` (R19). -/
  ts : Phase
  /-- `CUR` (R20). -/
  cur : Nat
  /-- `ACC` (R21). -/
  acc : Byte
  /-- `NB` (R21). -/
  nb : Nat
  /-- `STG` (R22). -/
  stg : Word
  /-- `BUSY` (R131). -/
  busy : Bool
  /-- `GUARD` (R23 a). -/
  guard : Guard
  /-- `TRACE`, oldest event first (R23 b). -/
  trace : List Event
  /-- `OPEN` (R23 c). -/
  opened : Bool
  /-- The request words the host has still to present, in order (R131). -/
  requests : List Word
  /-- The response words given so far, oldest first (R61). -/
  responses : List Byte
  /-- Whose moves come next; when it is empty the framer moves and nobody else does (R3, log 9). -/
  agenda : List Turn
  /-- The answers `open` will give, in order (R4). -/
  openAnswers : List Bool
  /-- The answers the allocation will give, in order (R136). -/
  allocAnswers : List Bool
  /-- The answers `writeBytes` will give, in order (R137). -/
  writeAnswers : List Bool
  /-- The implementation parameters; no step writes them (00_scope.md section 4). -/
  cfg : Config
  /-- The model's own: the steps left of the request in progress, when it waits or pauses (log 10). -/
  pending : List Micro
  /-- The model's own: the pseudocode's local `ok`, the answer to the last `writeBytes` (log 10). -/
  ok : Bool
  /-- The model's own: how many free values have been taken (log 7). -/
  fresh : Nat
  deriving DecidableEq, Repr

/-- The machine right after the first (power-on) reset (R24). `LCS`, `LEN`, `CS`, `GH`, `TS`, `BUSY`, `OPEN` and `TRACE`
are R24's values. DESIGN CHOICE (log 6): `MODE`, `FB`, `CUR`, `ACC`, `NB` and `STG`, which R24 leaves unspecified, are 0,
and `GUARD`, of which R24 says only that it is not `Framer`, is `Free`. -/
def State.reset : State where
  fb := Vector.replicate physCells 0#4
  lcs := .uninitialized
  mode := 0
  len := lenDefault
  cs := false
  gh := false
  ts := .idle
  cur := 0
  acc := 0
  nb := 0
  stg := 0
  busy := false
  guard := .free
  trace := []
  opened := false
  requests := []
  responses := []
  agenda := []
  openAnswers := []
  allocAnswers := []
  writeAnswers := []
  cfg := Config.reset
  pending := []
  ok := true
  fresh := 0

end Sys2Proof.Machine
end

