-- ==== Sys2Proof/Machine/Flags.lean ====
section
/-! DEFINITION. The flags and the response word.
The block has no condition codes (R19); its flags are `CS`, `GH` and `BUSY`. `CS` and `GH` follow the phase of the
transaction sequencer, and the status of a request is in its response word alone (R26). -/

namespace Sys2Proof.Machine

/-- `CS` is 1 exactly while `TS = T_SELECTED` (R19). -/
def csOf : Phase → Bool
  | .selected => true
  | .idle => false
  | .wait => false
  | .locked => false
  | .deselected => false

/-- `GH` is 1 exactly while `TS` is `T_LOCKED`, `T_SELECTED` or `T_DESELECTED` (R19). -/
def ghOf : Phase → Bool
  | .locked => true
  | .selected => true
  | .deselected => true
  | .idle => false
  | .wait => false

/-- The status codes (R142). -/
def Status.code : Status → BitVec 4
  | .ok => 0
  | .transportInitError => 1
  | .allocationError => 2
  | .transportWriteError => 3
  | .badState => 4
  | .illegalRequest => 5

/-- The response word `RSP` (R61): the status code in bits [7:4], zero in [3:1], the returned bit in [0]. -/
def responseWord (status : Status) (bit : Bool) : Byte := status.code ++ 0#3 ++ BitVec.ofBool bit

end Sys2Proof.Machine
end

