-- ==== Sys2Proof/Syntax.lean ====
section
/-! DEFINITION. The instructions: one constructor for every row of spec/opcode_table.json.
The first seven are the host requests (R60), the next nine the reserved request words (R62), the next twelve the command
words (R58, R80), which are the internal micro-operation CMD (R81), and the last three the units of a frame (R91, R93, R95). -/

namespace Sys2Proof

/-- One constructor per row of the opcode table. -/
inductive Instr where
  /-- `INIT mode` (R106): `initialize(commonsMode)`. -/
  | init (mode : BitVec 8)
  /-- `CLOSE` (R112): `close(handle)`. -/
  | close
  /-- `SET_CELL a, b, v` (R70): `setCell(handle, address, bitIndex, value)`. -/
  | setCell (a : BitVec 8) (b : BitVec 3) (v : Bool)
  /-- `GET_CELL a, b` (R71): `getCell(handle, address, bitIndex)`. -/
  | getCell (a : BitVec 8) (b : BitVec 3)
  /-- `CLEAR` (R72): `clearFramebuffer(handle)`. -/
  | clear
  /-- `TRANSMIT_FRAME` (R90): `transmitFrame(handle)`. -/
  | transmitFrame
  /-- `SET_BRIGHTNESS duty` (R82): `setBrightness(handle, duty)`. -/
  | setBrightness (duty : BitVec 8)
  /-- The reserved operation code 0x0 (R62). -/
  | reserved0
  /-- The reserved operation code 0x8 (R62). -/
  | reserved8
  /-- The reserved operation code 0x9 (R62). -/
  | reserved9
  /-- The reserved operation code 0xA (R62). -/
  | reservedA
  /-- The reserved operation code 0xB (R62). -/
  | reservedB
  /-- The reserved operation code 0xC (R62). -/
  | reservedC
  /-- The reserved operation code 0xD (R62). -/
  | reservedD
  /-- The reserved operation code 0xE (R62). -/
  | reservedE
  /-- The reserved operation code 0xF (R62). -/
  | reservedF
  /-- `CMD opcode` (R80, R81): a command word with any opcode. -/
  | cmdw (opcode : BitVec 8)
  /-- system-disable (R58). -/
  | cmdSysDis
  /-- commons-mode, 8-cell-NMOS (R58, R59). -/
  | cmdComs8N
  /-- commons-mode, 8-cell-PMOS (R58, R59). -/
  | cmdComs8P
  /-- commons-mode, 16-cell-NMOS (R58, R59). -/
  | cmdComs16N
  /-- commons-mode, 16-cell-PMOS (R58, R59). -/
  | cmdComs16P
  /-- master-mode (R58). -/
  | cmdMaster
  /-- on-chip-clock (R58). -/
  | cmdRcClk
  /-- system-enable (R58). -/
  | cmdSysEn
  /-- LED-enable (R58). -/
  | cmdLedOn
  /-- blink-disable (R58). -/
  | cmdBlinkOff
  /-- PWM-duty with a 4-bit duty (R55). -/
  | cmdPwmDuty (duty : BitVec 4)
  /-- The frame header unit with its six data bits (R52, R91). -/
  | hdrw (data : BitVec 6)
  /-- A full frame data byte (R53, R93, R94). -/
  | datb (byte : Byte)
  /-- The last data byte of a frame: two data bits, six padding bits (R95). -/
  | datbLast (data : BitVec 2)
  deriving DecidableEq, Repr

end Sys2Proof
end

