-- ==== Sys2Proof/WellFormed.lean ====
section
/-! DEFINITION. When an instruction is the reading of its own word.
Widths are in the types, so every host request is well formed. Two rows of the table share words with others and are
well formed only where the other row does not claim the word: a CMDW whose opcode is a named command's is that
command's row, and a data byte whose six low bits are zero is DATB_LAST's (log 13). -/

namespace Sys2Proof

/-- The opcode belongs to no named row of the opcode table (R58). -/
def opcodeUnnamed (c : Config) (opcode : BitVec 8) : Bool :=
  !c.namedOpcodes.contains opcode && !c.isPwm opcode

/-- The byte is not of DATB_LAST's form `ab000000` (R95). -/
def byteNotPadded (byte : Byte) : Bool := byte.extractLsb' 0 6 != 0

/-- An instruction is well formed under parameters `c` when no other row of the table claims its word. -/
def Instr.wellFormed (c : Config) : Instr → Bool
  | .cmdw opcode => opcodeUnnamed c opcode
  | .datb byte => byteNotPadded byte
  | .init _ => true
  | .close => true
  | .setCell _ _ _ => true
  | .getCell _ _ => true
  | .clear => true
  | .transmitFrame => true
  | .setBrightness _ => true
  | .reserved0 => true
  | .reserved8 => true
  | .reserved9 => true
  | .reservedA => true
  | .reservedB => true
  | .reservedC => true
  | .reservedD => true
  | .reservedE => true
  | .reservedF => true
  | .cmdSysDis => true
  | .cmdComs8N => true
  | .cmdComs8P => true
  | .cmdComs16N => true
  | .cmdComs16P => true
  | .cmdMaster => true
  | .cmdRcClk => true
  | .cmdSysEn => true
  | .cmdLedOn => true
  | .cmdBlinkOff => true
  | .cmdPwmDuty _ => true
  | .hdrw _ => true
  | .datbLast _ => true

end Sys2Proof
end

