-- ==== Sys2Proof/Decode.lean ====
section
/-! DEFINITION. Words in and out: the layouts of 30_encoding.md, the decoder and the encoder.
Two spaces of words exist and share bit patterns: request words (R60), which the request port takes, and wire words
(R50), which the block produces. `Code` says which space a word belongs to; the decoder is total on it and rejects by
name, and the encoder is written from the same layouts. -/

namespace Sys2Proof

/-- The endian corrector (R56): `bswap16(w) = {w[7:0], w[15:8]}`. -/
def bswap16 (w : Word) : Word := w.extractLsb' 0 8 ++ w.extractLsb' 8 8

/-- The two bytes of a 16-bit value in the host's memory order, least significant first (R57). -/
def memoryOrder (w : Word) : List Byte := [w.extractLsb' 0 8, w.extractLsb' 8 8]

/-- `CMDW(opcode) = {CMD_CLASS[2:0], opcode[7:0], CMD_PAD[4:0]}` (R51, R80): the structured word, before the swap. -/
def encodeCommand (c : Config) (opcode : BitVec 8) : Word := c.cmdClass ++ opcode ++ cmdPad

/-- `HDRW` (R52, R91): class identifier, zero start address, six data bits. -/
def headerWord (c : Config) (data : BitVec 6) : Word := c.wrClass ++ startAddr ++ data

/-- The opcode of the PWM-duty command for a 4-bit duty (R55): `OPC_PWM_BASE | zext_8(duty)`. -/
def pwmOpcode (c : Config) (duty : BitVec 4) : BitVec 8 := c.opcPwmBase ||| duty.setWidth 8

/-- The last data byte of a frame (R95): two data bits, six zero bits. -/
def paddedByte (data : BitVec 2) : Byte := data ++ 0#6

/-- An encoded instruction, with the space its word belongs to. -/
inductive Code where
  /-- A request word at the request port (R60). -/
  | request (w : Word)
  /-- A structured 16-bit unit, before the byte swap (R50: `CMDW`, `HDRW`). -/
  | unit16 (w : Word)
  /-- A one-byte unit (R50: `DATB`). -/
  | unit8 (b : Byte)
  deriving DecidableEq, Repr

/-- Why a wire word is none the block produces (R50, R64). -/
inductive Reject where
  /-- The class identifier is neither `CMD_CLASS` nor `WR_CLASS`: "the block never produces" such a word (R64). -/
  | unknownClass
  /-- A command word whose padding bits are not zero (R54). -/
  | padding
  /-- A frame header whose start address is not zero (R91). -/
  | startAddress
  /-- Not one or two bytes: the block writes no unit of another length (R41). -/
  | unitLength
  deriving DecidableEq, Repr

/-- The request a request word selects (R60, R62). Total: the nine remaining operation codes are the reserved rows.
Ignored operand bits are dropped, since they "do not change what the request does". -/
def decodeRequest (w : Word) : Instr :=
  match (w.extractLsb' 12 4).toNat with
  | 0x0 => .reserved0
  | 0x1 => .init (w.extractLsb' 0 8)
  | 0x2 => .close
  | 0x3 => .setCell (w.extractLsb' 4 8) (w.extractLsb' 1 3) (w.getLsbD 0)
  | 0x4 => .getCell (w.extractLsb' 4 8) (w.extractLsb' 1 3)
  | 0x5 => .clear
  | 0x6 => .transmitFrame
  | 0x7 => .setBrightness (w.extractLsb' 0 8)
  | 0x8 => .reserved8
  | 0x9 => .reserved9
  | 0xA => .reservedA
  | 0xB => .reservedB
  | 0xC => .reservedC
  | 0xD => .reservedD
  | 0xE => .reservedE
  | _ => .reservedF

/-- The command row an opcode belongs to (R58): a named row first, else the general CMDW. -/
def commandRow (c : Config) (opcode : BitVec 8) : Instr :=
  if opcode = c.opcSysDis then .cmdSysDis
  else if opcode = c.comsOpcode c.mode8N then .cmdComs8N
  else if opcode = c.comsOpcode c.mode8P then .cmdComs8P
  else if opcode = c.comsOpcode c.mode16N then .cmdComs16N
  else if opcode = c.comsOpcode c.mode16P then .cmdComs16P
  else if opcode = c.opcMaster then .cmdMaster
  else if opcode = c.opcRcClk then .cmdRcClk
  else if opcode = c.opcSysEn then .cmdSysEn
  else if opcode = c.opcLedOn then .cmdLedOn
  else if opcode = c.opcBlinkOff then .cmdBlinkOff
  else if c.isPwm opcode then .cmdPwmDuty (opcode.extractLsb' 0 4)
  else .cmdw opcode

/-- The row a structured 16-bit unit belongs to (R50): by its class identifier in bits [15:13]. -/
def decodeUnit16 (c : Config) (w : Word) : Except Reject Instr :=
  if w.extractLsb' 13 3 = c.cmdClass then
    if w.extractLsb' 0 5 = cmdPad then .ok (commandRow c (w.extractLsb' 5 8)) else .error .padding
  else if w.extractLsb' 13 3 = c.wrClass then
    if w.extractLsb' 6 7 = startAddr then .ok (.hdrw (w.extractLsb' 0 6)) else .error .startAddress
  else .error .unknownClass

/-- The row a one-byte unit belongs to: DATB_LAST where the six low bits are zero, else DATB (R53, R95). -/
def decodeUnit8 (b : Byte) : Instr :=
  if b.extractLsb' 0 6 = 0 then .datbLast (b.extractLsb' 6 2) else .datb b

/-- The decoder: total on every word of every space. -/
def decode (c : Config) : Code → Except Reject Instr
  | .request w => .ok (decodeRequest w)
  | .unit16 w => decodeUnit16 c w
  | .unit8 b => .ok (decodeUnit8 b)

/-- The reading of the bytes of one `writeBytes` unit: two bytes are a 16-bit unit, the first the high byte (R34); one
byte is a data byte (R35). -/
def decodeUnitBytes (c : Config) : List Byte → Except Reject Instr
  | [b] => decode c (.unit8 b)
  | [hi, lo] => decode c (.unit16 (hi ++ lo))
  | _ => .error .unitLength

/-- A request word from its fields (R60), ignored bits zero. -/
def requestWord (op : BitVec 4) (operands : BitVec 12) : Word := op ++ operands

/-- The encoder: the word of an instruction, from the same layouts (R51, R52, R53, R60). -/
def encode (c : Config) : Instr → Code
  | .init mode => .request (requestWord 0x1 (0#4 ++ mode))
  | .close => .request (requestWord 0x2 0)
  | .setCell a b v => .request (requestWord 0x3 (a ++ b ++ BitVec.ofBool v))
  | .getCell a b => .request (requestWord 0x4 (a ++ b ++ 0#1))
  | .clear => .request (requestWord 0x5 0)
  | .transmitFrame => .request (requestWord 0x6 0)
  | .setBrightness duty => .request (requestWord 0x7 (0#4 ++ duty))
  | .reserved0 => .request (requestWord 0x0 0)
  | .reserved8 => .request (requestWord 0x8 0)
  | .reserved9 => .request (requestWord 0x9 0)
  | .reservedA => .request (requestWord 0xA 0)
  | .reservedB => .request (requestWord 0xB 0)
  | .reservedC => .request (requestWord 0xC 0)
  | .reservedD => .request (requestWord 0xD 0)
  | .reservedE => .request (requestWord 0xE 0)
  | .reservedF => .request (requestWord 0xF 0)
  | .cmdw opcode => .unit16 (encodeCommand c opcode)
  | .cmdSysDis => .unit16 (encodeCommand c c.opcSysDis)
  | .cmdComs8N => .unit16 (encodeCommand c (c.comsOpcode c.mode8N))
  | .cmdComs8P => .unit16 (encodeCommand c (c.comsOpcode c.mode8P))
  | .cmdComs16N => .unit16 (encodeCommand c (c.comsOpcode c.mode16N))
  | .cmdComs16P => .unit16 (encodeCommand c (c.comsOpcode c.mode16P))
  | .cmdMaster => .unit16 (encodeCommand c c.opcMaster)
  | .cmdRcClk => .unit16 (encodeCommand c c.opcRcClk)
  | .cmdSysEn => .unit16 (encodeCommand c c.opcSysEn)
  | .cmdLedOn => .unit16 (encodeCommand c c.opcLedOn)
  | .cmdBlinkOff => .unit16 (encodeCommand c c.opcBlinkOff)
  | .cmdPwmDuty duty => .unit16 (encodeCommand c (pwmOpcode c duty))
  | .hdrw data => .unit16 (headerWord c data)
  | .datb byte => .unit8 byte
  | .datbLast data => .unit8 (paddedByte data)

/-- A 16-bit word of the opcode table with no interface said: the table's most specific row that claims it. A command
word or a frame header fixes more bits than a reserved request word, which fixes four, so a word of the wire is read as
such first and as a request word otherwise (log 1). The request port does not use this: a word there is a request word
whatever its pattern (R60, R62, R86, T80), and `decode` is told the interface. -/
def decodeWord16 (c : Config) (w : Word) : Instr :=
  match decodeUnit16 c w with
  | .ok i => i
  | .error _ => decodeRequest w

/-- The instruction the decoder reads from an instruction's bits as the opcode table numbers them, under the parameter
values the table is written with. -/
def decodeTableWord (nbits w : Nat) : Option Instr :=
  if nbits = 8 then some (decodeUnit8 (BitVec.ofNat 8 w))
  else if nbits = 16 then some (decodeWord16 (Config.defaults 0 0) (BitVec.ofNat 16 w))
  else none

end Sys2Proof
end

