-- ==== Sys2Proof/Machine/Operands.lean ====
section
/-! DEFINITION. The operand forms: framebuffer bits and the bounds check (R40, R74), the duty mask (R55), the length of a
mode (R107), and the assembly of a frame's header and data bytes (R91 to R95). -/

namespace Sys2Proof.Machine

/-- The bit of a cell with bit index `b` (R11): bit index 0 is the cell's bit 3. A bit index above 3 names no bit. -/
def cellBit (cell : Cell) (b : Nat) : Bool := cell.getMsbD b

/-- The cell with its bit of index `b` set to `v`. -/
def setCellBit (cell : Cell) (b : Nat) (v : Bool) : Cell :=
  let bit := BitVec.twoPow 4 (3 - b)
  if v then cell ||| bit else cell &&& ~~~bit

/-- Cell `a` of the store; a cell beyond the physical store reads as zero, and no rule reads one (R12). -/
def cellAt (fb : Store) (a : Nat) : Cell := (fb[a]?).getD 0

/-- `FB[a][b]` (R11). -/
def fbBit (fb : Store) (a b : Nat) : Bool := cellBit (cellAt fb a) b

/-- `FB[a][b] <- v` (R70). -/
def setFbBit (fb : Store) (a b : Nat) (v : Bool) : Store :=
  fb.setIfInBounds a (setCellBit (cellAt fb a) b v)

/-- All four bit indices of the first `n` cells set to 0, and no other cell touched (R72, R12). -/
def clearCells : Nat → Store → Store
  | 0, fb => fb
  | n + 1, fb => (clearCells n fb).setIfInBounds n 0#4

/-- `inRange(a, b) = (a < x[LEN]) and (b <= 3)` (R74), the one bounds check. -/
def inRange (len : Nat) (a : BitVec 8) (b : BitVec 3) : Bool :=
  decide (a.toNat < len) && decide (b.toNat ≤ 3)

/-- The duty cut to its low four bits, `duty & 0x0F` (R55, R82). -/
def maskDuty (duty : BitVec 8) : BitVec 4 := (duty &&& 0x0F#8).extractLsb' 0 4

/-- `lenOf(mode)` (R107): 64 for the two 8-cell modes, 96 for every other value. -/
def lenOf (c : Config) (mode : BitVec 8) : Nat :=
  if mode = c.mode8N ∨ mode = c.mode8P then lenEight
  else if mode = c.mode16N ∨ mode = c.mode16P then lenSixteen
  else lenDefault

/-- The first two bits of a cell, bit indices 0 and 1, the earlier one higher. -/
def firstBits (cell : Cell) : BitVec 2 := cell.extractLsb' 2 2

/-- The leftover bits of a cell, bit indices 2 and 3 (R93, C2). -/
def leftoverBits (cell : Cell) : BitVec 2 := cell.extractLsb' 0 2

/-- The six data bits of the frame header (R91): all of cell 0, then the first two bits of cell 1. -/
def headerData (fb : Store) : BitVec 6 := cellAt fb 0 ++ firstBits (cellAt fb 1)

/-- A data byte and the count of its filled bits, with cursor `i` (R93, R95): the leftover bits of cell `i`; if cell
`i + 1` exists, its four bits; if cell `i + 2` exists, its first two bits. Positions not filled are 0. -/
def assembleByte (fb : Store) (len i : Nat) : Byte × Nat :=
  let lead : Byte := leftoverBits (cellAt fb i) ++ 0#6
  if i + 1 < len then
    let mid : Byte := lead ||| (0#2 ++ cellAt fb (i + 1) ++ 0#2)
    if i + 2 < len then (mid ||| (0#6 ++ firstBits (cellAt fb (i + 2))), 8) else (mid, 6)
  else (lead, 2)

end Sys2Proof.Machine
end

