-- ==== Sys2Proof/Machine/Ops.lean ====
section
/-! DEFINITION. The named operations over the state: the trace, the environment's answers, the free values, the steps of
a transaction (R122 to R127), the units of a frame (R92 to R95), the lifecycle's steps (R106 to R110), the response
(R131), raising an error (R141), the reset input (R155) and the moves of the other bus users (R132). -/

namespace Sys2Proof.Machine

/-- `emit(e)`: append an event to the trace (R120). -/
def emit (e : Event) (s : State) : State := { s with trace := s.trace ++ [e] }

/-- The phase of the sequencer, with the two flags that follow it (R19). -/
def setPhase (p : Phase) (s : State) : State := { s with ts := p, cs := csOf p, gh := ghOf p }

/-! ### The environment's answers (R4, log 8): the next listed one, else a free value -/

/-- `draw(open_ok)`. -/
def drawOpen (s : State) : Bool × State :=
  match s.openAnswers with
  | b :: rest => (b, { s with openAnswers := rest })
  | [] => (Config.openAnswer s.fresh, { s with fresh := s.fresh + 1 })

/-- `draw(alloc_ok)`, taken only when `ALLOC_CAN_FAIL` (R136); otherwise the store cannot fail to exist. -/
def drawAlloc (s : State) : Bool × State :=
  if s.cfg.allocCanFail then
    match s.allocAnswers with
    | b :: rest => (b, { s with allocAnswers := rest })
    | [] => (Config.allocAnswer s.fresh, { s with fresh := s.fresh + 1 })
  else (true, s)

/-- `draw(write_ok)`. -/
def drawWrite (s : State) : Bool × State :=
  match s.writeAnswers with
  | b :: rest => (b, { s with writeAnswers := rest })
  | [] => (Config.writeAnswer s.fresh, { s with fresh := s.fresh + 1 })

/-! ### Registers that hold no value after their use (log 7): free values -/

/-- `STG` "holds no value between units" (R22). -/
def forgetStaging (s : State) : State :=
  { s with stg := Config.freeStaging s.fresh, fresh := s.fresh + 1 }

/-- `CUR`, `ACC` and `NB` hold no value outside a frame (R20, R21). -/
def forgetFrame (s : State) : State :=
  { s with
    cur := Config.freeCursor s.fresh
    acc := Config.freeAccumulator s.fresh
    nb := Config.freeBitCount s.fresh
    fresh := s.fresh + 1 }

/-- The store is given up: its contents are unspecified from here on (R110, R112, I12). -/
def forgetStore (s : State) : State :=
  { s with fb := Config.freeStore s.fresh, fresh := s.fresh + 1 }

/-! ### What one step of the framer can come to -/

/-- A step goes on, with steps put before the rest of the request; or ends the request's own steps and puts others in
their place (an error raised); or is not enabled, and the framer has no step (R123). -/
inductive Progress where
  | go (s : State) (more : List Micro)
  | abort (s : State) (steps : List Micro)
  | stuck

/-! ### The steps of a transaction -/

/-- R122: request the lock. -/
def requestGuard (s : State) : Progress :=
  if s.ts = .idle then .go (setPhase .wait (emit .guardRequest s)) [] else .stuck

/-- R123: be granted the lock, only while it is free. -/
def takeGrant (s : State) : Progress :=
  if s.ts = .wait ∧ s.guard = .free then
    .go { setPhase .locked (emit .guardGrant s) with guard := .framer } []
  else .stuck

/-- R124: assert chip-select. -/
def assertSelect (s : State) : Progress :=
  if s.ts = .locked then .go (setPhase .selected (emit .selectAssert s)) [] else .stuck

/-- R125: one `writeBytes`. On success and on failure the event is in the trace with its answer; the answer is kept in
the pseudocode's `ok`. -/
def writeUnit (bytes : List Byte) (s : State) : State :=
  { emit (.write bytes (drawWrite s).1) (drawWrite s).2 with ok := (drawWrite s).1 }

/-- R126: deassert chip-select. -/
def deassertSelect (s : State) : Progress :=
  if s.ts = .selected then .go (setPhase .deselected (emit .selectDeassert s)) [] else .stuck

/-- R127: release the lock. -/
def releaseGuard (s : State) : Progress :=
  if s.ts = .deselected then
    .go (forgetFrame { setPhase .idle (emit .guardRelease s) with guard := .free }) []
  else .stuck

/-! ### Units -/

/-- The two stages of R57 up to the hand-over: the structured word is staged and the endian corrector replaces it. -/
def stageWord (w : Word) (s : State) : State := { s with stg := bswap16 w }

/-- The unit writer hands the staged value over in memory order, least significant byte first (R57). -/
def writeStaging (s : State) : State := forgetStaging (writeUnit (memoryOrder s.stg) s)

/-- R125 for a staged command word. -/
def writeStaged (s : State) : Progress :=
  if s.ts = .selected then .go (writeStaging s) [] else .stuck

/-- R92: after the header unit the cursor is 1. -/
def sendHeaderUnit (s : State) : State := { writeStaging s with cur := 1 }

/-- R92, R93: the header unit, then the data loop unless the write failed (R100). -/
def writeHeader (s : State) : Progress :=
  if s.ts = .selected then
    .go (sendHeaderUnit s) (if (sendHeaderUnit s).ok then [.writeData] else [])
  else .stuck

/-- R94, R95: the assembled byte is handed over as it is, and after a full byte that was written the cursor advances by 2. -/
def sendAccumulator (s : State) : State :=
  let t := writeUnit [s.acc] s
  if t.ok && t.nb == 8 then { t with cur := t.cur + 2 } else t

/-- R93: the byte at the cursor, and the count of its filled bits, put into `ACC` and `NB`. -/
def loadAccumulator (s : State) : State :=
  { s with acc := (assembleByte s.fb s.len s.cur).1, nb := (assembleByte s.fb s.len s.cur).2 }

/-- One pass of the data loop (R93 to R95); it goes on after a full byte and ends after a padded one or a failure. -/
def writeData (s : State) : Progress :=
  if s.ts = .selected then
    let t := sendAccumulator (loadAccumulator s)
    .go t (if t.ok && t.nb == 8 then [.writeData] else [])
  else .stuck

/-- The header unit with given data bits, as an instruction of its own (table row HDRW). -/
def sendHeader (data : BitVec 6) (s : State) : Progress :=
  if s.ts = .selected then .go (sendHeaderUnit (stageWord (headerWord s.cfg data) s)) [] else .stuck

/-- A given data byte, as an instruction of its own (table rows DATB, DATB_LAST). DESIGN CHOICE (log 12): the cursor moves
as it does after a full byte of a frame, by 2 (R94), and is not held against `LEN`, which R68 bounds it by only within a
frame; the spec gives a lone data byte no cursor. -/
def sendByte (byte : Byte) (bits : Nat) (s : State) : Progress :=
  if s.ts = .selected then .go (sendAccumulator { s with acc := byte, nb := bits }) [] else .stuck

/-! ### Errors and responses -/

/-- `respond(status, value)`: one response, after all effects (R61), and the port is free again (R131). -/
def respond (status : Status) (bit : Bool) (s : State) : State :=
  { s with responses := s.responses ++ [responseWord status bit], busy := false }

/-- Raising an error (R141), the one shared operation: the transaction is already closed (R130); if `undo`, the
acquisition of `INIT` is undone by R110; then the response with the error's code and bit 0. Nothing is saved, no mode or
mask changes and control goes nowhere: there is no handler and, after the response, nothing to return from (R145). -/
def raise (error : Status) (undo : Bool) (s : State) : Progress :=
  .abort s (if undo then [.giveUp, .respond error false] else [.respond error false])

/-- R85, R100, R110: after the transaction is closed, a failed write is raised to the request; an `INIT`, which has not
reached `Active`, also gives back what it acquired. -/
def checkWrite (s : State) : Progress :=
  if s.ok then .go s [] else raise .transportWriteError (s.lcs != .active) s

/-! ### The lifecycle's steps -/

/-- R106, R136: obtain the store; `LCS <- Disabled`, or AllocationError. -/
def allocate (s : State) : Progress :=
  match drawAlloc s with
  | (true, t) => .go { t with lcs := .disabled } []
  | (false, t) => raise .allocationError true t

/-- R106, R107, R135: `open` the transport, latch the mode, set the length, obtain the store; or TransportInitError. -/
def acquire (mode : BitVec 8) (s : State) : Progress :=
  match drawOpen s with
  | (true, t) => allocate { emit (.openCall true) t with opened := true, mode := mode, len := lenOf t.cfg mode }
  | (false, t) => raise .transportInitError false (emit (.openCall false) t)

/-- R108: clear all four bit indices of every cell of the Framebuffer (as R72 does). -/
def clearFramebuffer (s : State) : State := { s with fb := clearCells s.len s.fb }

/-- The transport is released: event `Close`, `OPEN <- false` (R110, R112). -/
def closeTransport (s : State) : State := { emit .closeCall s with opened := false }

/-- `fail` of R110: the transport released, the store given up, `LEN <- 96`, `LCS <- Uninitialized`. -/
def giveUp (s : State) : State :=
  { forgetStore (closeTransport s) with len := lenDefault, lcs := .uninitialized }

/-! ### The other agents -/

/-- `GUARD: Free -> Other` (R132); a user that wants a lock that is not free waits. -/
def otherTakes (s : State) : State := if s.guard = .free then { s with guard := .other } else s

/-- `GUARD: Other -> Free` (R132). -/
def otherReleases (s : State) : State := if s.guard = .other then { s with guard := .free } else s

/-- The reset input on an idle block (R155): every register takes the value of R24; no event; `GUARD`, `TRACE` and
`OPEN` are the environment's and stay. The registers R24 leaves unspecified take the values State.reset names (log 6). -/
def applyReset (s : State) : State :=
  { s with
    fb := State.reset.fb
    lcs := .uninitialized
    mode := State.reset.mode
    len := lenDefault
    cs := false
    gh := false
    ts := .idle
    cur := State.reset.cur
    acc := State.reset.acc
    nb := State.reset.nb
    stg := State.reset.stg
    busy := false
    pending := []
    ok := true }

end Sys2Proof.Machine
end

