-- ==== Sys2Proof/Machine/Sequence.lean ====
section
/-! DEFINITION. Carrying out the steps of a request: what each step does, and how far the framer gets before it responds,
waits for the lock (R123, R129), or the agenda gives the move to somebody else (R3, R132, D12). -/

namespace Sys2Proof.Machine

/-- What one step of the framer does. -/
def micro (m : Micro) (s : State) : Progress :=
  match m with
  | .acquire mode => acquire mode s
  | .enterConfiguring => .go { s with lcs := .configuring } []
  | .stageCommand opcode => .go (stageWord (encodeCommand s.cfg opcode) s) []
  | .stageCommonsMode => .go (stageWord (encodeCommand s.cfg (s.cfg.comsOpcode s.mode)) s) []
  | .stageHeader => .go (stageWord (headerWord s.cfg (headerData s.fb)) s) []
  | .requestGuard => requestGuard s
  | .takeGrant => takeGrant s
  | .assertSelect => assertSelect s
  | .writeStaged => writeStaged s
  | .writeHeader => writeHeader s
  | .writeData => writeData s
  | .sendHeader data => sendHeader data s
  | .sendByte byte bits => sendByte byte bits s
  | .deassertSelect => deassertSelect s
  | .releaseGuard => releaseGuard s
  | .checkWrite => checkWrite s
  | .clearStore => .go (clearFramebuffer s) []
  | .enterActive => .go { s with lcs := .active } []
  | .giveUp => .go (giveUp s) []
  | .respond status bit => .go (respond status bit s) []

/-- The framer stops here with these steps still before it. -/
def suspend (steps : List Micro) (s : State) : State := { s with pending := steps ++ s.pending }

/-- Carry out `steps`, at most `fuel` moves of any agent. Before each step of the framer the agenda says whose move it
is; with an empty agenda it is the framer's. A step that is not enabled (R123: the lock is not free) leaves the move to
the next on the agenda, and if nobody is left the framer waits. -/
def settle : Nat → List Micro → State → State
  | 0, steps, s => suspend steps s
  | _ + 1, [], s => s
  | fuel + 1, m :: rest, s =>
    match s.agenda with
    | .otherTakes :: turns => settle fuel (m :: rest) (otherTakes { s with agenda := turns })
    | .otherReleases :: turns => settle fuel (m :: rest) (otherReleases { s with agenda := turns })
    | .pause :: turns => suspend (m :: rest) { s with agenda := turns }
    | .reset :: _ => suspend (m :: rest) s
    | .framer :: turns =>
      match micro m { s with agenda := turns } with
      | .go t more => settle fuel (more ++ rest) t
      | .abort t steps => settle fuel steps t
      | .stuck => settle fuel (m :: rest) { s with agenda := turns }
    | [] =>
      match micro m s with
      | .go t more => settle fuel (more ++ rest) t
      | .abort t steps => settle fuel steps t
      | .stuck => suspend (m :: rest) s

/-- More moves than any request needs: an `INIT` of 96 cells takes fewer than 150 steps of the framer, and every other
move uses up a turn of the agenda (log 19). -/
def fuelFor (s : State) : Nat := 192 + s.agenda.length

/-- Carry out the steps from this state. -/
def run (steps : List Micro) (s : State) : State := settle (fuelFor s) steps s

/-- One transaction (R121): the unit is staged, the lock requested and granted, chip-select asserted, the units written,
chip-select deasserted, the lock released. -/
def transactionSteps (stage write : Micro) : List Micro :=
  [stage, .requestGuard, .takeGrant, .assertSelect, write, .deassertSelect, .releaseGuard]

/-- `CMD(opcode)` (R81) without the raising of its error. -/
def commandSteps (opcode : BitVec 8) : List Micro := transactionSteps (.stageCommand opcode) .writeStaged

/-- The frame (R90 to R98) without the raising of its error. -/
def frameSteps : List Micro := transactionSteps .stageHeader .writeHeader

/-- A request answered at once, with no event (R73, R138, R139). -/
def answer (status : Status) (s : State) : State := respond status false s

end Sys2Proof.Machine
end

