-- ==== Sys2Proof/Machine/Command.lean ====
section
/-! DEFINITION. The Command Encoder (41_command_ops.md): the internal micro-operation CMD and its named rows, and the
request SET_BRIGHTNESS. A CMD carried out as an instruction of its own has no request to raise its error to: a failed
write stays in `ok`, where the operation that called CMD finds it (R85, log 12). -/

namespace Sys2Proof.Machine

/-- `CMD(opcode)` (R81): one command word in one transaction of its own. It begins only while no transaction is open
(R122's precondition). -/
def command (opcode : BitVec 8) (s : State) : Host.Outcome State Fault Refusal :=
  if s.ts = .idle then .next (run (commandSteps opcode) s) else .fault .transactionOpen

/-- `CMD opcode` (R80, R81), table row CMDW. -/
def execCmdw (opcode : BitVec 8) (s : State) : Host.Outcome State Fault Refusal := command opcode s

/-- system-disable (R58, R83). -/
def execCmdSysDis (s : State) : Host.Outcome State Fault Refusal := command s.cfg.opcSysDis s

/-- commons-mode for 8-cell-NMOS (R58, R59, R83). -/
def execCmdComs8N (s : State) : Host.Outcome State Fault Refusal := command (s.cfg.comsOpcode s.cfg.mode8N) s

/-- commons-mode for 8-cell-PMOS (R58, R59, R83). -/
def execCmdComs8P (s : State) : Host.Outcome State Fault Refusal := command (s.cfg.comsOpcode s.cfg.mode8P) s

/-- commons-mode for 16-cell-NMOS (R58, R59, R83). -/
def execCmdComs16N (s : State) : Host.Outcome State Fault Refusal := command (s.cfg.comsOpcode s.cfg.mode16N) s

/-- commons-mode for 16-cell-PMOS (R58, R59, R83). -/
def execCmdComs16P (s : State) : Host.Outcome State Fault Refusal := command (s.cfg.comsOpcode s.cfg.mode16P) s

/-- master-mode (R58, R83). -/
def execCmdMaster (s : State) : Host.Outcome State Fault Refusal := command s.cfg.opcMaster s

/-- on-chip-clock (R58, R83). -/
def execCmdRcClk (s : State) : Host.Outcome State Fault Refusal := command s.cfg.opcRcClk s

/-- system-enable (R58, R83). -/
def execCmdSysEn (s : State) : Host.Outcome State Fault Refusal := command s.cfg.opcSysEn s

/-- LED-enable (R58, R83). -/
def execCmdLedOn (s : State) : Host.Outcome State Fault Refusal := command s.cfg.opcLedOn s

/-- blink-disable (R58, R83). -/
def execCmdBlinkOff (s : State) : Host.Outcome State Fault Refusal := command s.cfg.opcBlinkOff s

/-- PWM-duty (R55, R58, R83). -/
def execCmdPwmDuty (duty : BitVec 4) (s : State) : Host.Outcome State Fault Refusal :=
  command (pwmOpcode s.cfg duty) s

/-- The steps of `SET_BRIGHTNESS duty` (R82): one CMD with the duty cut to four bits, its error raised, the response. -/
def brightnessSteps (c : Config) (duty : BitVec 8) : List Micro :=
  commandSteps (pwmOpcode c (maskDuty duty)) ++ [.checkWrite, .respond .ok false]

/-- `SET_BRIGHTNESS duty` (R82, R85, R139). -/
def execSetBrightness (duty : BitVec 8) (s : State) : Host.Outcome State Fault Refusal :=
  if s.lcs = .active then .next (run (brightnessSteps s.cfg duty) s) else .next (answer .badState s)

end Sys2Proof.Machine
end

