-- ==== Sys2Proof/Machine/Frame.lean ====
section
/-! DEFINITION. The Frame Encoder (42_frame_ops.md): TRANSMIT_FRAME, and the frame's units as rows of their own. -/

namespace Sys2Proof.Machine

/-- The steps of `TRANSMIT_FRAME` (R90): one frame, its error raised (R100), the response. -/
def transmitSteps : List Micro := frameSteps ++ [.checkWrite, .respond .ok false]

/-- `TRANSMIT_FRAME` (R90 to R100, R139). -/
def execTransmitFrame (s : State) : Host.Outcome State Fault Refusal :=
  if s.lcs = .active then .next (run transmitSteps s) else .next (answer .badState s)

/-- One unit inside an open transaction (R125); outside one the block writes nothing (R121). -/
def frameUnit (unit : Micro) (s : State) : Host.Outcome State Fault Refusal :=
  if s.ts = .selected then .next (run [unit] s) else .fault .notInTransaction

/-- The frame header unit (R91, R92), table row HDRW. -/
def execHdrw (data : BitVec 6) (s : State) : Host.Outcome State Fault Refusal := frameUnit (.sendHeader data) s

/-- A full data byte (R93, R94), table row DATB. -/
def execDatb (byte : Byte) (s : State) : Host.Outcome State Fault Refusal := frameUnit (.sendByte byte 8) s

/-- The last data byte of a frame (R95), table row DATB_LAST: two bits filled, six padded. -/
def execDatbLast (data : BitVec 2) (s : State) : Host.Outcome State Fault Refusal :=
  frameUnit (.sendByte (paddedByte data) 2) s

end Sys2Proof.Machine
end

