-- ==== Sys2Proof/Machine/Framebuffer.lean ====
section
/-! DEFINITION. The Framebuffer Store's requests (40_framebuffer_ops.md): SET_CELL, GET_CELL, CLEAR.
None produces an event and none can fail; effect and response are one step (log 17). -/

namespace Sys2Proof.Machine

/-- `SET_CELL a, b, v` (R70, R73). -/
def execSetCell (a : BitVec 8) (b : BitVec 3) (v : Bool) (s : State) : Host.Outcome State Fault Refusal :=
  if s.lcs = .active then
    if inRange s.len a b then
      .next (respond .ok false { s with fb := setFbBit s.fb a.toNat b.toNat v })
    else .next (respond .ok false s)
  else .next (answer .badState s)

/-- `GET_CELL a, b` (R71, R73). -/
def execGetCell (a : BitVec 8) (b : BitVec 3) (s : State) : Host.Outcome State Fault Refusal :=
  if s.lcs = .active then
    if inRange s.len a b then .next (respond .ok (fbBit s.fb a.toNat b.toNat) s)
    else .next (respond .ok false s)
  else .next (answer .badState s)

/-- `CLEAR` (R72, R73). -/
def execClear (s : State) : Host.Outcome State Fault Refusal :=
  if s.lcs = .active then .next (respond .ok false (clearFramebuffer s)) else .next (answer .badState s)

end Sys2Proof.Machine
end

