-- ==== Sys2Proof/Machine/Lifecycle.lean ====
section
/-! DEFINITION. The Chip Lifecycle Controller (43_lifecycle_ops.md): INIT and CLOSE. -/

namespace Sys2Proof.Machine

/-- One command of the bring-up: a transaction, then its error raised (R108, R110). -/
def bringUpCommand (stage : Micro) : List Micro := transactionSteps stage .writeStaged ++ [.checkWrite]

/-- The fixed sequence of R108: system-disable, commons-mode, master-mode, on-chip-clock, system-enable, LED-enable,
blink-disable, default PWM duty. -/
def bringUpSteps (c : Config) : List Micro :=
  bringUpCommand (.stageCommand c.opcSysDis) ++ bringUpCommand .stageCommonsMode ++
    bringUpCommand (.stageCommand c.opcMaster) ++ bringUpCommand (.stageCommand c.opcRcClk) ++
    bringUpCommand (.stageCommand c.opcSysEn) ++ bringUpCommand (.stageCommand c.opcLedOn) ++
    bringUpCommand (.stageCommand c.opcBlinkOff) ++
    bringUpCommand (.stageCommand (pwmOpcode c c.defaultDuty))

/-- The steps of `INIT mode` (R106 to R109): acquire, the eight commands, clear, the blank frame, `Active`. -/
def initSteps (c : Config) (mode : BitVec 8) : List Micro :=
  [.acquire mode, .enterConfiguring] ++ bringUpSteps c ++
    (.clearStore :: frameSteps) ++ [.checkWrite, .enterActive, .respond .ok false]

/-- `INIT mode` (R106 to R110, R115). -/
def execInit (mode : BitVec 8) (s : State) : Host.Outcome State Fault Refusal :=
  if s.lcs = .uninitialized then .next (run (initSteps s.cfg mode) s) else .next (answer .badState s)

/-- `CLOSE` (R112, R113): in `Active` the transport is released and the store freed; elsewhere nothing; always `OK`. -/
def execClose (s : State) : Host.Outcome State Fault Refusal :=
  if s.lcs = .active then
    .next (respond .ok false { forgetStore (closeTransport s) with lcs := .closed })
  else .next (respond .ok false s)

end Sys2Proof.Machine
end

