-- ==== Sys2Proof/Machine/Reserved.lean ====
section
/-! DEFINITION. The reserved request words (R62, R138): answered `ILLEGAL_REQUEST` in every lifecycle state, no state
change, no event. -/

namespace Sys2Proof.Machine

/-- The reserved operation code 0x0 (R62, R138). -/
def execReserved0 (s : State) : Host.Outcome State Fault Refusal := .next (answer .illegalRequest s)

/-- The reserved operation code 0x8 (R62, R138). -/
def execReserved8 (s : State) : Host.Outcome State Fault Refusal := .next (answer .illegalRequest s)

/-- The reserved operation code 0x9 (R62, R138). -/
def execReserved9 (s : State) : Host.Outcome State Fault Refusal := .next (answer .illegalRequest s)

/-- The reserved operation code 0xA (R62, R138). -/
def execReservedA (s : State) : Host.Outcome State Fault Refusal := .next (answer .illegalRequest s)

/-- The reserved operation code 0xB (R62, R138). -/
def execReservedB (s : State) : Host.Outcome State Fault Refusal := .next (answer .illegalRequest s)

/-- The reserved operation code 0xC (R62, R138). -/
def execReservedC (s : State) : Host.Outcome State Fault Refusal := .next (answer .illegalRequest s)

/-- The reserved operation code 0xD (R62, R138). -/
def execReservedD (s : State) : Host.Outcome State Fault Refusal := .next (answer .illegalRequest s)

/-- The reserved operation code 0xE (R62, R138). -/
def execReservedE (s : State) : Host.Outcome State Fault Refusal := .next (answer .illegalRequest s)

/-- The reserved operation code 0xF (R62, R138). -/
def execReservedF (s : State) : Host.Outcome State Fault Refusal := .next (answer .illegalRequest s)

end Sys2Proof.Machine
end

