-- ==== Sys2Proof/Machine/Dispatch.lean ====
section
/-! DEFINITION. The meaning of every instruction: one arm per constructor, one call per arm. -/

namespace Sys2Proof.Machine

def exec (i : Instr) (s : State) : Host.Outcome State Fault Refusal :=
  match i with
  -- host requests
  | .init mode => Sys2Proof.Machine.execInit mode s
  | .close => Sys2Proof.Machine.execClose s
  | .setCell a b v => Sys2Proof.Machine.execSetCell a b v s
  | .getCell a b => Sys2Proof.Machine.execGetCell a b s
  | .clear => Sys2Proof.Machine.execClear s
  | .transmitFrame => Sys2Proof.Machine.execTransmitFrame s
  | .setBrightness duty => Sys2Proof.Machine.execSetBrightness duty s
  -- reserved request words
  | .reserved0 => Sys2Proof.Machine.execReserved0 s
  | .reserved8 => Sys2Proof.Machine.execReserved8 s
  | .reserved9 => Sys2Proof.Machine.execReserved9 s
  | .reservedA => Sys2Proof.Machine.execReservedA s
  | .reservedB => Sys2Proof.Machine.execReservedB s
  | .reservedC => Sys2Proof.Machine.execReservedC s
  | .reservedD => Sys2Proof.Machine.execReservedD s
  | .reservedE => Sys2Proof.Machine.execReservedE s
  | .reservedF => Sys2Proof.Machine.execReservedF s
  -- command words
  | .cmdw opcode => Sys2Proof.Machine.execCmdw opcode s
  | .cmdSysDis => Sys2Proof.Machine.execCmdSysDis s
  | .cmdComs8N => Sys2Proof.Machine.execCmdComs8N s
  | .cmdComs8P => Sys2Proof.Machine.execCmdComs8P s
  | .cmdComs16N => Sys2Proof.Machine.execCmdComs16N s
  | .cmdComs16P => Sys2Proof.Machine.execCmdComs16P s
  | .cmdMaster => Sys2Proof.Machine.execCmdMaster s
  | .cmdRcClk => Sys2Proof.Machine.execCmdRcClk s
  | .cmdSysEn => Sys2Proof.Machine.execCmdSysEn s
  | .cmdLedOn => Sys2Proof.Machine.execCmdLedOn s
  | .cmdBlinkOff => Sys2Proof.Machine.execCmdBlinkOff s
  | .cmdPwmDuty duty => Sys2Proof.Machine.execCmdPwmDuty duty s
  -- units of a frame
  | .hdrw data => Sys2Proof.Machine.execHdrw data s
  | .datb byte => Sys2Proof.Machine.execDatb byte s
  | .datbLast data => Sys2Proof.Machine.execDatbLast data s

end Sys2Proof.Machine
end

