-- ==== Sys2Proof/Machine/Turn.lean ====
section
/-! DEFINITION. The framer's move: go on with the request in progress, or accept the next request word (R131). -/

namespace Sys2Proof.Machine

/-- The framer's turn is used up, where the agenda gave it one. -/
def dropTurn (s : State) : State :=
  match s.agenda with
  | .framer :: turns => { s with agenda := turns }
  | _ => s

/-- Go on with the steps a waiting or paused request has left. -/
def resume (s : State) : State := run s.pending { s with pending := [] }

/-- Acceptance of a request (R131): the word leaves the port, `BUSY <- 1`. -/
def accept (rest : List Word) (s : State) : State := { dropTurn s with requests := rest, busy := true }

/-- The framer's move. With steps of a request left it goes on with them. Otherwise, while `BUSY = 1` the port takes
nothing; while it is 0 the next word the host presents is accepted, decoded and carried out, and if the host presents
none the block waits (R27, R131, R156). -/
def framerMove (s : State) : Host.Outcome State Fault Refusal :=
  if s.pending = [] then
    if s.busy then .next (dropTurn s)
    else
      match s.requests with
      | [] => .next (dropTurn s)
      | w :: rest => exec (decodeRequest w) (accept rest s)
  else .next (resume s)

/-- The step that runs a one-byte unit as an instruction of its own: what an 8-bit table word stands for (R53, R95). -/
def unitStep (b : Byte) : Micro :=
  if b.extractLsb' 0 6 = 0 then .sendByte b 2 else .sendByte b 8

/-- The machine in the middle of a transaction, with one unit before it (R125): what it takes for a unit of a frame to
be the next thing the framer does (log 2). -/
def placeUnit (unit : Micro) (s : State) : State :=
  { setPhase .selected s with guard := .framer, pending := [unit] }

/-- The machine with no transaction open and a CMD before it (R81): what it takes for a command word to be the next
thing the framer does (log 2). A lock the framer does not hold stays with its owner. -/
def placeCommand (opcode : BitVec 8) (s : State) : State :=
  { setPhase .idle s with
    guard := if s.guard = .framer then .free else s.guard
    pending := commandSteps opcode }

/-- The machine idle, with the request word at its port and the framer to move (log 2). -/
def placeRequest (w : Word) (s : State) : State :=
  { s with requests := w :: s.requests, busy := false, pending := [] }

/-- A 16-bit table word placed where it is read as `decodeWord16` reads it (log 1). -/
def placeWord16 (w : Word) (s : State) : State :=
  match decodeUnit16 s.cfg w with
  | .ok (.hdrw data) => placeUnit (.sendHeader data) s
  | .ok _ => placeCommand (w.extractLsb' 5 8) s
  | .error _ => placeRequest w s

/-- A table word of `nbits` bits placed for the next step (log 2). -/
def placeWord (nbits w : Nat) (s : State) : State :=
  if nbits = 8 then placeUnit (unitStep (BitVec.ofNat 8 w)) s else placeWord16 (BitVec.ofNat 16 w) s

end Sys2Proof.Machine
end

