-- ==== Sys2Proof/Machine/Step.lean ====
section
/-! DEFINITION. One step of the machine, and how an instruction is placed where the next step runs it. -/

namespace Sys2Proof.Machine

/-- One step: the agent whose move the agenda says comes next makes it (R3); with an empty agenda it is the framer's
move. A reset while a request is in progress is refused (R155). -/
def step (s : State) : Host.Outcome State Fault Refusal :=
  match s.agenda with
  | .otherTakes :: turns => .next (otherTakes { s with agenda := turns })
  | .otherReleases :: turns => .next (otherReleases { s with agenda := turns })
  | .pause :: turns => .next { s with agenda := turns }
  | .reset :: turns => if s.busy then .refused .resetWhileBusy else .next (applyReset { s with agenda := turns })
  | .framer :: _ => framerMove s
  | [] => framerMove s

/-- `s` with the instruction of `nbits` bits `w` placed where the next step runs it: a request word at the request port
of an idle block, a command word or a frame's unit as the framer's next step; and the next move the framer's (log 2). -/
def State.withFetchWord (s : State) (nbits w : Nat) : State :=
  { placeWord nbits w s with agenda := if s.agenda = [] then [] else .framer :: s.agenda }

end Sys2Proof.Machine
end

