-- ==== Sys2Proof/Safety.lean ====
section
/-! DEFINITION. The terms claims are stated in: what a transaction and a frame look like on the interfaces, written from
the rules' own bit positions and not from the encoder's loop; what a request leaves alone; and the invariant that every
step keeps. -/

namespace Sys2Proof

/-- The host requests that the lifecycle state gates on `Active` (R139). -/
def Instr.needsActive : Instr → Bool
  | .setCell _ _ _ => true
  | .getCell _ _ => true
  | .clear => true
  | .transmitFrame => true
  | .setBrightness _ => true
  | _ => false

/-- The requests that open transactions, with the lifecycle state that accepts each (R82, R90, R108, R139). -/
def Instr.sendsFrom : Instr → Option Machine.Lifecycle
  | .init _ => some .uninitialized
  | .transmitFrame => some .active
  | .setBrightness _ => some .active
  | _ => none

/-- The instructions a request word can select: the seven requests and the reserved words (R60, R62). -/
def Instr.isRequest : Instr → Bool
  | .init _ => true
  | .close => true
  | .setCell _ _ _ => true
  | .getCell _ _ => true
  | .clear => true
  | .transmitFrame => true
  | .setBrightness _ => true
  | .reserved0 => true
  | .reserved8 => true
  | .reserved9 => true
  | .reservedA => true
  | .reservedB => true
  | .reservedC => true
  | .reservedD => true
  | .reservedE => true
  | .reservedF => true
  | _ => false

end Sys2Proof

namespace Sys2Proof.Machine

/-! ### Transactions and frames as the interfaces show them -/

/-- The first four events of a transaction are these three and its first write (R121). -/
def openingEvents : List Event := [.guardRequest, .guardGrant, .selectAssert]

/-- The last two events of a transaction (R121). -/
def closingEvents : List Event := [.selectDeassert, .guardRelease]

/-- The events of a transaction whose units were all written (R121). -/
def transactionEvents (units : List (List Byte)) : List Event :=
  openingEvents ++ units.map (fun u => .write u true) ++ closingEvents

/-- The events of a transaction whose last attempted unit failed (R130). -/
def failedEvents (written : List (List Byte)) (failed : List Byte) : List Event :=
  openingEvents ++ written.map (fun u => .write u true) ++ [.write failed false] ++ closingEvents

/-- A 16-bit unit on the wire, most significant byte first (R34). -/
def wireUnit (w : Word) : List Byte := [w.extractLsb' 8 8, w.extractLsb' 0 8]

/-- The unit of a command (R81). -/
def commandUnit (c : Config) (opcode : BitVec 8) : List Byte := wireUnit (encodeCommand c opcode)

/-- Bit `p` of a frame, counted from 0 at the first bit of the class identifier (R96): three class bits, seven zero
bits, the Framebuffer's bits in ascending linear bit address, then zero padding. -/
def streamBit (c : Config) (fb : Store) (len p : Nat) : Bool :=
  if p < 3 then c.wrClass.getMsbD p
  else if p < 10 then false
  else if p < 10 + 4 * len then fbBit fb ((p - 10) / 4) ((p - 10) % 4)
  else false

/-- Eight bits as a byte, the first in bit 7 (R96). -/
def byteOfBits (f : Nat → Bool) : Byte :=
  BitVec.ofBool (f 0) ++ BitVec.ofBool (f 1) ++ BitVec.ofBool (f 2) ++ BitVec.ofBool (f 3) ++
    BitVec.ofBool (f 4) ++ BitVec.ofBool (f 5) ++ BitVec.ofBool (f 6) ++ BitVec.ofBool (f 7)

/-- Wire byte `k` of a frame (R96, R101). -/
def streamByte (c : Config) (fb : Store) (len k : Nat) : Byte :=
  byteOfBits fun j => streamBit c fb len (8 * k + j)

/-- The data units of a frame: wire bytes 2, 3, ... one by one, `len / 2` of them (R97, R101). -/
def dataUnits (c : Config) (fb : Store) (len : Nat) : List (List Byte) :=
  (List.range (len / 2)).map fun k => [streamByte c fb len (k + 2)]

/-- The units of a frame: the header unit is wire bytes 0 and 1 (R101). -/
def frameUnits (c : Config) (fb : Store) (len : Nat) : List (List Byte) :=
  [streamByte c fb len 0, streamByte c fb len 1] :: dataUnits c fb len

/-- The units of the `Write` events among some events, in order (R120). -/
def writtenUnits (events : List Event) : List (List Byte) :=
  events.filterMap fun
    | .write bytes _ => some bytes
    | .guardRequest => none
    | .guardGrant => none
    | .guardRelease => none
    | .openCall _ => none
    | .closeCall => none
    | .selectAssert => none
    | .selectDeassert => none

/-- Bit `p` of some bytes on the wire, bit 7 of the first byte first (R37, R96). -/
def wireBit (bytes : List Byte) (p : Nat) : Bool := ((bytes[p / 8]?).getD 0).getMsbD (p % 8)

/-- The chip's reading of a frame's bytes (R32): after the ten header bits, nibble `a` of the stream, first bit highest. -/
def nibbleOf (bytes : List Byte) (a : Nat) : Cell :=
  BitVec.ofBool (wireBit bytes (10 + 4 * a)) ++ BitVec.ofBool (wireBit bytes (11 + 4 * a)) ++
    BitVec.ofBool (wireBit bytes (12 + 4 * a)) ++ BitVec.ofBool (wireBit bytes (13 + 4 * a))

/-- The opcode a command row of the table stands for (R58), under the machine's parameters. -/
def commandOpcode (c : Config) : Instr → Option (BitVec 8)
  | .cmdw opcode => some opcode
  | .cmdSysDis => some c.opcSysDis
  | .cmdComs8N => some (c.comsOpcode c.mode8N)
  | .cmdComs8P => some (c.comsOpcode c.mode8P)
  | .cmdComs16N => some (c.comsOpcode c.mode16N)
  | .cmdComs16P => some (c.comsOpcode c.mode16P)
  | .cmdMaster => some c.opcMaster
  | .cmdRcClk => some c.opcRcClk
  | .cmdSysEn => some c.opcSysEn
  | .cmdLedOn => some c.opcLedOn
  | .cmdBlinkOff => some c.opcBlinkOff
  | .cmdPwmDuty duty => some (c.opcPwmBase ||| (0#4 ++ duty))
  | .init _ => none
  | .close => none
  | .setCell _ _ _ => none
  | .getCell _ _ => none
  | .clear => none
  | .transmitFrame => none
  | .setBrightness _ => none
  | .reserved0 => none
  | .reserved8 => none
  | .reserved9 => none
  | .reservedA => none
  | .reservedB => none
  | .reservedC => none
  | .reservedD => none
  | .reservedE => none
  | .reservedF => none
  | .hdrw _ => none
  | .datb _ => none
  | .datbLast _ => none

/-- The unit a frame row of the table stands for (R92, R94, R95), under the machine's parameters. -/
def frameRowUnit (c : Config) : Instr → Option (List Byte)
  | .hdrw data => some [c.wrClass ++ 0#5, 0#2 ++ data]
  | .datb byte => some [byte]
  | .datbLast data => some [data ++ 0#6]
  | _ => none

/-- The eight opcodes of the bring-up, in order (R108). -/
def bringUpOpcodes (c : Config) (mode : BitVec 8) : List (BitVec 8) :=
  [c.opcSysDis, c.comsOpcode mode, c.opcMaster, c.opcRcClk, c.opcSysEn, c.opcLedOn, c.opcBlinkOff,
    c.opcPwmBase ||| (0#4 ++ c.defaultDuty)]

/-- The eight units of the bring-up, in order. -/
def bringUpUnits (c : Config) (mode : BitVec 8) : List (List Byte) :=
  (bringUpOpcodes c mode).map (commandUnit c)

/-- Each unit a transaction of its own. -/
def separateTransactions (units : List (List Byte)) : List Event :=
  units.flatMap fun u => transactionEvents [u]

/-! ### Hypotheses and frames -/

/-- Nothing is in the way of a transaction: none is open, the lock is free, and no other agent moves. -/
def State.unhindered (s : State) : Prop := s.ts = .idle ∧ s.guard = .free ∧ s.agenda = []

/-- The lengths a Framebuffer can have (R18). -/
def legalLen (n : Nat) : Prop := n = 64 ∨ n = 96

/-- What a request that only sends something leaves as it was: the Framebuffer, the configuration registers, the
lifecycle state, the transport, the lock, the phase, the host's words, the parameters, and the inputs it does not use.
Left out are the trace, the responses and `BUSY`, `CS` and `GH` (stated where it is used), the registers that hold no
value after their use (`CUR`, `ACC`, `NB`, `STG`), and the record of write answers. -/
structure SameButSent (s t : State) : Prop where
  fb : t.fb = s.fb
  lcs : t.lcs = s.lcs
  mode : t.mode = s.mode
  len : t.len = s.len
  opened : t.opened = s.opened
  guard : t.guard = s.guard
  ts : t.ts = s.ts
  requests : t.requests = s.requests
  agenda : t.agenda = s.agenda
  openAnswers : t.openAnswers = s.openAnswers
  allocAnswers : t.allocAnswers = s.allocAnswers
  cfg : t.cfg = s.cfg
  pending : t.pending = s.pending

/-- The bits of a request word that select the request and its operands; the others are ignored (R60). -/
def significantBits (op : BitVec 4) : Word :=
  if op = 1 ∨ op = 7 then 0xF0FF else if op = 3 then 0xFFFF else if op = 4 then 0xFFFE else 0xF000

/-- A turn of the framer or of another bus user, neither a pause nor a reset. -/
def Turn.ordinary : Turn → Bool
  | .framer => true
  | .otherTakes => true
  | .otherReleases => true
  | .pause => false
  | .reset => false

/-! ### The invariant -/

/-- How far a transaction has come, as its events show it (R121, R130). -/
inductive Stage where
  /-- No transaction is open. -/
  | idle
  /-- The lock has been asked for. -/
  | wait
  /-- The lock is held. -/
  | locked
  /-- Chip-select is asserted and no unit is written yet. -/
  | selected
  /-- A 2-byte unit and then `bytes` 1-byte units are written. -/
  | sent (bytes : Nat)
  /-- The last unit's write failed: no further unit is written (R130). -/
  | failed
  /-- Chip-select is deasserted again. -/
  | deselected
  deriving DecidableEq, Repr

/-- The phase of the sequencer at a stage (R19). -/
def Stage.phase : Stage → Phase
  | .idle => .idle
  | .wait => .wait
  | .locked => .locked
  | .selected => .selected
  | .sent _ => .selected
  | .failed => .selected
  | .deselected => .deselected

/-- The 1-byte units of a transaction without a failure: none in a command, 32 or 48 in a frame (R97, R121). -/
def wholeCount (bytes : Nat) : Bool := bytes == 0 || bytes == 32 || bytes == 48

/-- Where an event leaves the interfaces: whether the transport is acquired, and the stage of the transaction; none when
the event breaks the protocol. The transport is used between `Open` and `Close` (R149); a transaction is
`GuardRequest`, `GuardGrant`, `SelectAssert`, one or more `Write`, `SelectDeassert`, `GuardRelease` (R121); its first
unit has 2 bytes and the others 1 (R41); without a failure their number is a command's or a frame's; and after a failed
one no further unit is written (R130). -/
def protocolStep : Option (Bool × Stage) → Event → Option (Bool × Stage)
  | some (opened, .idle), .openCall ok => some (opened || ok, .idle)
  | some (true, .idle), .closeCall => some (false, .idle)
  | some (true, .idle), .guardRequest => some (true, .wait)
  | some (true, .wait), .guardGrant => some (true, .locked)
  | some (true, .locked), .selectAssert => some (true, .selected)
  | some (true, .selected), .write [_, _] ok => some (true, if ok then .sent 0 else .failed)
  | some (true, .sent n), .write [_] ok => some (true, if ok then .sent (n + 1) else .failed)
  | some (true, .sent n), .selectDeassert => if wholeCount n then some (true, .deselected) else none
  | some (true, .failed), .selectDeassert => some (true, .deselected)
  | some (true, .deselected), .guardRelease => some (true, .idle)
  | _, _ => none

/-- The whole record read from the first reset on, when nothing is acquired and no transaction is open. -/
def protocolState (trace : List Event) : Option (Bool × Stage) :=
  trace.foldl protocolStep (some (false, .idle))

/-- The stage the record of a state has come to. -/
def State.stage (s : State) : Stage := ((protocolState s.trace).map Prod.snd).getD .idle

/-- A lifecycle state that can be seen between requests (R16). -/
def Lifecycle.settled : Lifecycle → Bool
  | .uninitialized => true
  | .active => true
  | .closed => true
  | .disabled => false
  | .configuring => false

/-- A lifecycle state in which transactions are opened: inside `INIT`'s bring-up and in `Active` (R108, R111). -/
def Lifecycle.sending : Lifecycle → Bool
  | .configuring => true
  | .active => true
  | .uninitialized => false
  | .disabled => false
  | .closed => false

/-- The stage and lifecycle state after a step that goes on; none where the step has no place. What is planned after a
unit has to do for a failed one, so a unit leads to the stage of a failure. -/
def afterMicro : Micro → Stage × Lifecycle → Option (Stage × Lifecycle)
  | .acquire _, (.idle, .uninitialized) => some (.idle, .disabled)
  | .enterConfiguring, (.idle, .disabled) => some (.idle, .configuring)
  | .stageCommand _, (.idle, l) => if l.sending then some (.idle, l) else none
  | .stageCommonsMode, (.idle, l) => if l.sending then some (.idle, l) else none
  | .stageHeader, (.idle, l) => if l.sending then some (.idle, l) else none
  | .requestGuard, (.idle, l) => if l.sending then some (.wait, l) else none
  | .takeGrant, (.wait, l) => if l.sending then some (.locked, l) else none
  | .assertSelect, (.locked, l) => if l.sending then some (.selected, l) else none
  | .writeStaged, (.selected, l) => if l.sending then some (.failed, l) else none
  | .writeHeader, (.selected, l) => if l.sending then some (.failed, l) else none
  | .writeData, (.sent _, l) => if l.sending then some (.failed, l) else none
  | .deassertSelect, (.sent n, l) => if l.sending && wholeCount n then some (.deselected, l) else none
  | .deassertSelect, (.failed, l) => if l.sending then some (.deselected, l) else none
  | .releaseGuard, (.deselected, l) => if l.sending then some (.idle, l) else none
  | .checkWrite, (.idle, l) => if l.sending then some (.idle, l) else none
  | .clearStore, (.idle, .configuring) => some (.idle, .configuring)
  | .enterActive, (.idle, .configuring) => some (.idle, .active)
  | _, _ => none

/-- A request's remaining steps lead from this stage and lifecycle state to exactly one response, the last of them; an
acquisition is given back at the end of a failed `INIT`, outside a transaction (R110, R141). -/
def leadsToResponse : List Micro → Stage × Lifecycle → Bool
  | [], _ => false
  | [.respond _ _], (g, l) => g == .idle && l.settled
  | .respond _ _ :: _ :: _, _ => false
  | [.giveUp, .respond _ _], (g, l) => g == .idle && (l == .uninitialized || l == .configuring)
  | m :: rest, p =>
    match afterMicro m p with
    | some q => leadsToResponse rest q
    | none => false

/-- The invariant of the machine. -/
structure State.Inv (s : State) : Prop where
  /-- `LEN` is 64 or 96 (R18). -/
  len_legal : legalLen s.len
  /-- In `Uninitialized` `LEN` is 96 (R107), but for an acquisition about to be given back (R110). -/
  len_default : s.lcs = .uninitialized → s.len = 96 ∨ s.pending.head? = some .giveUp
  /-- `CS` is 1 exactly while `TS = T_SELECTED` (R19). -/
  cs_iff : s.cs = true ↔ s.ts = .selected
  /-- `GH` is 1 exactly while `TS` is `T_LOCKED`, `T_SELECTED` or `T_DESELECTED` (R19). -/
  gh_iff : s.gh = true ↔ s.ts = .locked ∨ s.ts = .selected ∨ s.ts = .deselected
  /-- The framer owns the lock exactly while `GH` is 1 (R10, R23). -/
  guard_iff : s.guard = .framer ↔ s.gh = true
  /-- A request is in progress exactly while steps of it remain (R131). -/
  busy_iff : s.busy = true ↔ s.pending ≠ []
  /-- Between requests no transaction is open, and the lifecycle state is one that can be seen (R16, R19). -/
  idle_between : s.pending = [] → s.ts = .idle ∧ s.lcs.settled = true
  /-- Within a request the remaining steps lead to exactly one response (R61). -/
  leads : s.pending ≠ [] → leadsToResponse s.pending (s.stage, s.lcs) = true
  /-- In the data loop the cursor is odd, in range, and counts the data units written (R94). -/
  cursor : s.pending.head? = some .writeData → ∃ n, s.stage = .sent n ∧ s.cur = 2 * n + 1 ∧ s.cur < s.len
  /-- The transport is held from `Disabled` to the end of `Active` (R106, R112), and where it is to be given back (R110). -/
  opened_held : s.lcs = .disabled ∨ s.lcs = .configuring ∨ s.lcs = .active ∨ s.pending.head? = some .giveUp →
    s.opened = true
  /-- The transport is not held in `Closed` (R112). -/
  opened_closed : s.lcs = .closed → s.opened = false
  /-- The trace follows the protocol of R121, R130 and R149, and `OPEN` is where it leads. -/
  protocol : protocolState s.trace = some (s.opened, s.stage)
  /-- `TS` is the phase of the stage the trace has come to (R122 to R127). -/
  phase : s.ts = s.stage.phase

end Sys2Proof.Machine
end

