-- ==== Sys2Proof/Certificates/Slice0/Obligations.lean ====
section
/-! DEFINITION. The statements for the provers, from the numbered rules of spec/. Each is about every state and every value
of the implementation parameters that its hypotheses admit. -/

open Sys2Proof Sys2Proof.Machine

/-! ### Words -/

/-- R56: `bswap16(w) = {w[7:0], w[15:8]}`, equivalently `((w & 0x00FF) << 8) | (w >> 8)`, and it is an involution. -/
def Obligations.ByteSwapExchangesAndIsItsOwnInverse : Prop :=
  ∀ w : Word,
    (bswap16 w).extractLsb' 8 8 = w.extractLsb' 0 8 ∧ (bswap16 w).extractLsb' 0 8 = w.extractLsb' 8 8 ∧
    bswap16 w = ((w &&& 0x00FF#16) <<< 8) ||| (w >>> 8) ∧ bswap16 (bswap16 w) = w

/-- R57: the swap and then the memory order hand the structured word's high byte over first. -/
def Obligations.SwapThenMemoryOrderPutsTheHighByteFirst : Prop :=
  ∀ w : Word, memoryOrder (bswap16 w) = [w.extractLsb' 8 8, w.extractLsb' 0 8]

/-- R51, R54, R80: the fields of a command word, for every opcode, and different opcodes give different words. -/
def Obligations.CommandWordHasClassOpcodeAndZeroPadding : Prop :=
  ∀ (c : Config) (opcode : BitVec 8),
    (encodeCommand c opcode).extractLsb' 13 3 = c.cmdClass ∧
    (encodeCommand c opcode).extractLsb' 5 8 = opcode ∧
    (encodeCommand c opcode).extractLsb' 0 5 = 0#5 ∧
    (∀ opcode', encodeCommand c opcode' = encodeCommand c opcode → opcode' = opcode)

/-- Decode and encode agree: every well-formed instruction, with every operand at every value, is read back from its
word, under every choice of parameters that lets the wire's words be told apart. -/
def Obligations.DecodingAnEncodedInstructionGivesItBack : Prop :=
  ∀ (c : Config) (i : Instr), c.distinct = true → i.wellFormed c = true → decode c (encode c i) = .ok i

/-- R60: two request words that agree on the bits that select the request and its operands are the same request, and the
encoder's word of it agrees with them on those bits. -/
def Obligations.IgnoredRequestBitsChangeNothing : Prop :=
  ∀ (c : Config) (w w' : Word),
    w &&& significantBits (w.extractLsb' 12 4) = w' &&& significantBits (w.extractLsb' 12 4) →
    decodeRequest w' = decodeRequest w ∧
    encode c (decodeRequest w) = .request (w &&& significantBits (w.extractLsb' 12 4))

/-- R64: a wire word whose class identifier is neither of the two is none of the block's, and a command word's padding
and a header's start address must be zero (R54, R91): each is rejected by name. -/
def Obligations.ForeignWireWordsAreRejected : Prop :=
  ∀ (c : Config) (w : Word),
    (w.extractLsb' 13 3 ≠ c.cmdClass → w.extractLsb' 13 3 ≠ c.wrClass → decode c (.unit16 w) = .error .unknownClass) ∧
    (w.extractLsb' 13 3 = c.cmdClass → w.extractLsb' 0 5 ≠ 0#5 → decode c (.unit16 w) = .error .padding) ∧
    (w.extractLsb' 13 3 = c.wrClass → c.cmdClass ≠ c.wrClass → w.extractLsb' 6 7 ≠ 0#7 →
      decode c (.unit16 w) = .error .startAddress)

/-- A few words written out from the encodings of 30_encoding.md decode to the instructions they stand for: request words
of the spec's test vectors (T4, T5, T16, T22, T62, T80), and wire words under the parameter values the opcode table is
written with, which the spec marks as defaults from general knowledge (G2, G3; log 3). That a word which two rows share is
read as its named row before CMDW, and as DATB_LAST before DATB, is the model's choice (log 13). -/
def Obligations.SampleWordsDecode : Prop :=
  decodeRequest 0x1024 = .init 0x24 ∧ decodeRequest 0x33F7 = .setCell 63 3 true ∧
  decodeRequest 0x43F6 = .getCell 63 3 ∧ decodeRequest 0x5A5A = .clear ∧
  decodeRequest 0x70F5 = .setBrightness 0xF5 ∧ decodeRequest 0x9ABC = .reserved9 ∧
  ∀ duty key,
    decode (Config.defaults duty key) (.unit16 0b100_00000001_00000) = .ok .cmdSysEn ∧
    decode (Config.defaults duty key) (.unit16 0b100_00100100_00000) = .ok .cmdComs16N ∧
    decode (Config.defaults duty key) (.unit16 0b100_10101101_00000) = .ok (.cmdPwmDuty 0b1101) ∧
    decode (Config.defaults duty key) (.unit16 0b100_01010101_00000) = .ok (.cmdw 0x55) ∧
    decode (Config.defaults duty key) (.unit16 0b101_0000000_101101) = .ok (.hdrw 0b101101) ∧
    decode (Config.defaults duty key) (.unit8 0b10100101) = .ok (.datb 0xA5) ∧
    decode (Config.defaults duty key) (.unit8 0b10000000) = .ok (.datbLast 0b10)

/-- The unit a command row hands to the transport reads back as that row. That the wire's words can be told apart is a
premise no source states (N3), and that a command word is read as its named row before CMDW is the model's choice
(log 13). -/
def Obligations.CommandUnitsReadBackAsTheirRow : Prop :=
  ∀ (c : Config) (i : Instr) (opcode : BitVec 8), c.distinct = true → i.wellFormed c = true →
    commandOpcode c i = some opcode → decodeUnitBytes c (commandUnit c opcode) = .ok i

/-- R61 and R142: the fields of a response, for every status and bit, and the six status codes. -/
def Obligations.ResponseWordHasCodeZerosAndBit : Prop :=
  ∀ (status : Status) (bit : Bool),
    (responseWord status bit).extractLsb' 4 4 =
      (match status with
        | .ok => 0#4
        | .transportInitError => 1#4
        | .allocationError => 2#4
        | .transportWriteError => 3#4
        | .badState => 4#4
        | .illegalRequest => 5#4) ∧
    (responseWord status bit).extractLsb' 1 3 = 0#3 ∧ (responseWord status bit).getLsbD 0 = bit

/-! ### The Framebuffer Store -/

/-- R70: with the location in range `SET_CELL` writes its one bit and changes no other bit of the Framebuffer and no other
state; out of range "the call is a silent no-op". In both cases the status is OK and no event is produced. -/
def Obligations.SetCellWritesOneBitOrNothing : Prop :=
  ∀ (s : State) (a : BitVec 8) (b : BitVec 3) (v : Bool), s.lcs = .active → legalLen s.len →
    (a.toNat < s.len → b.toNat ≤ 3 →
      ∃ t, exec (.setCell a b v) s = .next t ∧
        (∀ a' b', fbBit t.fb a' b' = if a' = a.toNat ∧ b' = b.toNat then v else fbBit s.fb a' b') ∧
        t = { s with fb := t.fb, responses := s.responses ++ [responseWord .ok false], busy := false }) ∧
    (s.len ≤ a.toNat ∨ 3 < b.toNat →
      exec (.setCell a b v) s =
        .next { s with responses := s.responses ++ [responseWord .ok false], busy := false })

/-- R71: `GET_CELL` returns the current bit in range and the default 0 out of range, with status OK; it changes no state
and produces no event. -/
def Obligations.GetCellReturnsTheBitOrFalse : Prop :=
  ∀ (s : State) (a : BitVec 8) (b : BitVec 3), s.lcs = .active →
    exec (.getCell a b) s = .next { s with
      responses := s.responses ++
        [responseWord .ok (if a.toNat < s.len ∧ b.toNat ≤ 3 then fbBit s.fb a.toNat b.toNat else false)]
      busy := false }

/-- The law of R71: what is set in range is what is got, and every other location reads as before. -/
def Obligations.GetAfterSetReturnsTheValue : Prop :=
  ∀ (s : State) (a : BitVec 8) (b : BitVec 3) (v : Bool) (a' : BitVec 8) (b' : BitVec 3),
    s.lcs = .active → legalLen s.len → a.toNat < s.len → b.toNat ≤ 3 →
    ∃ t u u₀, exec (.setCell a b v) s = .next t ∧ exec (.getCell a' b') t = .next u ∧
      exec (.getCell a' b') s = .next u₀ ∧
      u.responses.getLast? =
        if a' = a ∧ b' = b then some (if v then 0x01#8 else 0x00#8) else u₀.responses.getLast?

/-- R72: `CLEAR` sets every bit of every cell of the Framebuffer to 0, touches no cell beyond it (R12) and nothing else,
and produces no event; the status is OK. -/
def Obligations.ClearZeroesEveryBitOfTheFramebuffer : Prop :=
  ∀ s : State, s.lcs = .active → legalLen s.len →
    ∃ t, exec .clear s = .next t ∧
      (∀ a b, fbBit t.fb a b = if a < s.len then false else fbBit s.fb a b) ∧
      t = { s with fb := t.fb, responses := s.responses ++ [responseWord .ok false], busy := false }

/-! ### Lifecycle gating and reserved words -/

/-- R139: outside the accepting lifecycle state a request changes no state, produces no event and is answered BAD_STATE
with bit 0; `CLOSE` is answered OK in every state. -/
def Obligations.RequestsInAWrongStateAreAnsweredBadState : Prop :=
  ∀ s : State,
    (∀ i : Instr, i.needsActive = true → s.lcs ≠ .active →
      exec i s = .next { s with responses := s.responses ++ [0x40#8], busy := false }) ∧
    (∀ mode, s.lcs ≠ .uninitialized →
      exec (.init mode) s = .next { s with responses := s.responses ++ [0x40#8], busy := false }) ∧
    (∃ t, exec .close s = .next t ∧ t.responses = s.responses ++ [0x00#8])

/-- R62, R138: every request word with a reserved operation code is answered ILLEGAL_REQUEST in every lifecycle state,
with no state change and no event; and so is every reserved row. -/
def Obligations.ReservedWordsAreAnsweredIllegalRequest : Prop :=
  ∀ s : State,
    (∀ w : Word, (w.extractLsb' 12 4 = 0 ∨ 8 ≤ (w.extractLsb' 12 4).toNat) →
      exec (decodeRequest w) s = .next { s with responses := s.responses ++ [0x50#8], busy := false }) ∧
    (∀ i ∈ [Instr.reserved0, .reserved8, .reserved9, .reservedA, .reservedB, .reservedC, .reservedD, .reservedE,
        .reservedF],
      exec i s = .next { s with responses := s.responses ++ [0x50#8], busy := false })

/-! ### The Command Encoder -/

/-- R81 with R58: every command row sends its one word in one transaction of its own, whatever the transport answers (a
listed answer or a free one), and leaves the Framebuffer, `LCS`, `MODE`, `LEN`, the responses and `BUSY` alone; `CS` and
`GH` are 0 again. That the PWM-duty opcode is OPC_PWM_BASE OR the duty is the spec's decision D18 (log 5). -/
def Obligations.CommandRowsSendOneWordInOneTransaction : Prop :=
  ∀ (s : State) (i : Instr) (opcode : BitVec 8), commandOpcode s.cfg i = some opcode → s.unhindered →
    ∃ t, exec i s = .next t ∧
      t.trace = s.trace ++ openingEvents ++ [.write (commandUnit s.cfg opcode) (drawWrite s).1] ++ closingEvents ∧
      t.ok = (drawWrite s).1 ∧ t.cs = false ∧ t.gh = false ∧ t.responses = s.responses ∧ t.busy = s.busy ∧
      t.writeAnswers = s.writeAnswers.tail ∧ SameButSent s t

/-- R122's precondition: a command is begun only while no transaction is open; the model stops otherwise. -/
def Obligations.CommandRowsNeedAnIdleSequencer : Prop :=
  ∀ (s : State) (i : Instr) (opcode : BitVec 8), commandOpcode s.cfg i = some opcode → s.ts ≠ .idle →
    exec i s = .fault .transactionOpen

/-- R82: in `Active`, `SET_BRIGHTNESS` performs `CMD(OPC_PWM_BASE | duty[3:0])` and nothing else; a duty above 15 is
masked, never rejected. That the opcode is OPC_PWM_BASE OR the masked duty is the spec's decision D18 (R55, log 5). -/
def Obligations.SetBrightnessSendsTheMaskedDuty : Prop :=
  ∀ (s : State) (duty : BitVec 8), s.lcs = .active → s.unhindered → (drawWrite s).1 = true →
    ∃ t, exec (.setBrightness duty) s = .next t ∧
      t.trace = s.trace ++ transactionEvents [commandUnit s.cfg (s.cfg.opcPwmBase ||| (duty &&& 0x0F#8))] ∧
      t.responses = s.responses ++ [0x00#8] ∧ t.busy = false ∧ t.cs = false ∧ t.gh = false ∧
      t.writeAnswers = s.writeAnswers.tail ∧ SameButSent s t

/-- R85, R130: a failed write of `SET_BRIGHTNESS` still closes the transaction, and then the request ends with
TransportWriteError; `LCS` stays `Active` and the command is not sent again. That the clean-up comes before the report is
the spec's decision D10, the OR of OPC_PWM_BASE and the masked duty its decision D18 (log 5). -/
def Obligations.SetBrightnessReportsAFailedWriteAfterCleanUp : Prop :=
  ∀ (s : State) (duty : BitVec 8), s.lcs = .active → s.unhindered → (drawWrite s).1 = false →
    ∃ t, exec (.setBrightness duty) s = .next t ∧
      t.trace = s.trace ++ failedEvents [] (commandUnit s.cfg (s.cfg.opcPwmBase ||| (duty &&& 0x0F#8))) ∧
      t.responses = s.responses ++ [0x30#8] ∧ t.busy = false ∧ t.cs = false ∧ t.gh = false ∧
      t.writeAnswers = s.writeAnswers.tail ∧ SameButSent s t

/-! ### The Frame Encoder -/

/-- R96 with R90 and R98: a successful `TRANSMIT_FRAME` is one transaction whose units are exactly the padded bit string
of the Framebuffer, and it changes no state that outlives the request. -/
def Obligations.TransmitFrameSendsThePaddedBitString : Prop :=
  ∀ (s : State) (rest : List Bool),
    s.lcs = .active → legalLen s.len → s.unhindered →
    s.writeAnswers = List.replicate (1 + s.len / 2) true ++ rest →
    ∃ t, exec .transmitFrame s = .next t ∧
      t.trace = s.trace ++ transactionEvents (frameUnits s.cfg s.fb s.len) ∧
      t.responses = s.responses ++ [0x00#8] ∧ t.busy = false ∧ t.cs = false ∧ t.gh = false ∧
      t.writeAnswers = rest ∧ SameButSent s t

/-- R100, R130: when the write of unit `k` of a frame fails, the units before it were sent, no further unit is, the
transaction is closed, and the request ends with TransportWriteError, `LCS` still `Active` and the Framebuffer unchanged.
That the frame stops and is closed before the report is the spec's decision D10 (log 5). -/
def Obligations.TransmitFrameStopsAtAFailedUnit : Prop :=
  ∀ (s : State) (k : Nat) (rest : List Bool),
    s.lcs = .active → legalLen s.len → s.unhindered → k < 1 + s.len / 2 →
    s.writeAnswers = List.replicate k true ++ false :: rest →
    ∃ t, exec .transmitFrame s = .next t ∧
      t.trace = s.trace ++
        failedEvents ((frameUnits s.cfg s.fb s.len).take k) (((frameUnits s.cfg s.fb s.len)[k]?).getD []) ∧
      t.responses = s.responses ++ [0x30#8] ∧ t.busy = false ∧ t.cs = false ∧ t.gh = false ∧
      t.writeAnswers = rest ∧ SameButSent s t

/-- R97: the `Write` events of a successful `TRANSMIT_FRAME` are `1 + ceil((4 * LEN - 6) / 8)` units, 33 or 49, the header
of 2 bytes and `LEN / 2` data units of 1 byte, 32 or 48; their bytes are 34 or 50; and the positions beyond the
Framebuffer's bits are zeros in the final byte. -/
def Obligations.FrameHasTheStatedUnitsAndBytes : Prop :=
  ∀ (s : State) (rest : List Bool),
    s.lcs = .active → legalLen s.len → s.unhindered →
    s.writeAnswers = List.replicate (1 + s.len / 2) true ++ rest →
    ∃ t events header data, exec .transmitFrame s = .next t ∧ t.trace = s.trace ++ events ∧
      writtenUnits events = header :: data ∧ header.length = 2 ∧ (∀ unit ∈ data, unit.length = 1) ∧
      data.length = (4 * s.len - 6 + 7) / 8 ∧ data.length = s.len / 2 ∧
      (writtenUnits events).flatten.length = 2 + (4 * s.len - 6 + 7) / 8 ∧
      (s.len = 64 → data.length = 32 ∧ (writtenUnits events).length = 33 ∧
        (writtenUnits events).flatten.length = 34) ∧
      (s.len = 96 → data.length = 48 ∧ (writtenUnits events).length = 49 ∧
        (writtenUnits events).flatten.length = 50) ∧
      (∀ p, 10 + 4 * s.len ≤ p → p < 8 * (writtenUnits events).flatten.length →
        p / 8 + 1 = (writtenUnits events).flatten.length ∧ wireBit (writtenUnits events).flatten p = false)

/-- R101, R32, R95: in the bytes of the `Write` events of a successful `TRANSMIT_FRAME`, in order, `FB[a][b]` is bit
`7 - (p mod 8)` of byte `p div 8` with `p = 10 + 4a + b`, for every cell and bit index; nibble `a` after the ten header
bits is cell `a`; and the last byte's six low bits are 0. -/
def Obligations.FramePutsEveryBitAtItsPosition : Prop :=
  ∀ (s : State) (rest : List Bool),
    s.lcs = .active → legalLen s.len → s.unhindered →
    s.writeAnswers = List.replicate (1 + s.len / 2) true ++ rest →
    ∃ t events, exec .transmitFrame s = .next t ∧ t.trace = s.trace ++ events ∧
      (∀ a b, a < s.len → b ≤ 3 →
        ∃ byte, (writtenUnits events).flatten[(10 + 4 * a + b) / 8]? = some byte ∧
          byte.getLsbD (7 - (10 + 4 * a + b) % 8) = fbBit s.fb a b) ∧
      (∀ a, a < s.len → nibbleOf (writtenUnits events).flatten a = cellAt s.fb a) ∧
      ∃ last, (writtenUnits events).flatten.getLast? = some last ∧ last.extractLsb' 0 6 = 0#6

/-- R93, R94, R95, R100: one pass of the data loop at an odd cursor writes one byte, the wire byte of that place; after a
full byte that was written the cursor advances by 2 and the loop goes on, after the padded byte or a failure it ends. That the loop ends after a failed unit is the spec's decision D10
(log 5). -/
def Obligations.DataLoopWritesTheNextByte : Prop :=
  ∀ (s : State) (k : Nat), s.ts = .selected → legalLen s.len → s.cur = 2 * k + 1 → s.cur < s.len →
    ∃ t more, micro .writeData s = .go t more ∧
      t.trace = s.trace ++ [.write [streamByte s.cfg s.fb s.len (k + 2)] (drawWrite s).1] ∧
      t.nb = (if s.cur + 2 < s.len then 8 else 2) ∧
      t.cur = (if (drawWrite s).1 = true ∧ s.cur + 2 < s.len then s.cur + 2 else s.cur) ∧
      more = (if (drawWrite s).1 = true ∧ s.cur + 2 < s.len then [.writeData] else []) ∧
      t.fb = s.fb ∧ t.ts = .selected

/-- The table's frame rows (R92, R94, R95): each writes exactly its one unit inside the open transaction, whatever the
transport answers, and leaves the Framebuffer, the responses and the phase alone; the header puts the cursor at 1, a full
byte that was written advances it by 2. That a row is an instruction of its own, and what the cursor then does, is the
model's choice (log 12). -/
def Obligations.FrameRowsWriteTheirOneUnit : Prop :=
  ∀ (s : State) (i : Instr) (unit : List Byte), frameRowUnit s.cfg i = some unit → s.ts = .selected → s.agenda = [] →
    ∃ t, exec i s = .next t ∧ t.trace = s.trace ++ [.write unit (drawWrite s).1] ∧ t.ok = (drawWrite s).1 ∧
      t.cs = s.cs ∧ t.gh = s.gh ∧ t.responses = s.responses ∧ t.busy = s.busy ∧
      t.writeAnswers = s.writeAnswers.tail ∧ SameButSent s t ∧
      (∀ data, i = .hdrw data → t.cur = 1 ∧ t.acc = s.acc ∧ t.nb = s.nb) ∧
      (∀ byte, i = .datb byte →
        t.cur = (if (drawWrite s).1 then s.cur + 2 else s.cur) ∧ t.acc = byte ∧ t.nb = 8 ∧ t.stg = s.stg) ∧
      (∀ data, i = .datbLast data → t.cur = s.cur ∧ t.acc = data ++ 0#6 ∧ t.nb = 2 ∧ t.stg = s.stg)

/-- R125's precondition and R121: a unit is written only inside a transaction; the model stops otherwise. -/
def Obligations.FrameRowsNeedAnOpenTransaction : Prop :=
  ∀ (s : State) (i : Instr) (unit : List Byte), frameRowUnit s.cfg i = some unit → s.ts ≠ .selected →
    exec i s = .fault .notInTransaction

/-! ### The Chip Lifecycle Controller -/

/-- R108, R109: a successful `INIT` opens the transport, sends the eight commands in order, each in a transaction of its
own, clears the Framebuffer, sends the blank frame, and ends in `Active`. The command sent for a mode that is none of the
four is the parameter `COMS_OPCODE`'s, the spec's decision D5, and the OR of OPC_PWM_BASE and the duty its decision D18
(log 3, log 5). -/
def Obligations.InitBringsTheChipUp : Prop :=
  ∀ (s : State) (mode : BitVec 8) (opens rest : List Bool),
    s.lcs = .uninitialized → s.unhindered → s.openAnswers = true :: opens →
    (s.cfg.allocCanFail = true → s.allocAnswers.head? = some true) →
    s.writeAnswers = List.replicate (9 + lenOf s.cfg mode / 2) true ++ rest →
    ∃ t, exec (.init mode) s = .next t ∧
      t.trace = s.trace ++ [.openCall true] ++ separateTransactions (bringUpUnits s.cfg mode) ++
        transactionEvents (frameUnits s.cfg (Vector.replicate physCells 0#4) (lenOf s.cfg mode)) ∧
      t.responses = s.responses ++ [0x00#8] ∧ t.busy = false ∧
      t.lcs = .active ∧ t.mode = mode ∧ t.len = lenOf s.cfg mode ∧ t.opened = true ∧
      (∀ a b, fbBit t.fb a b = if a < lenOf s.cfg mode then false else fbBit s.fb a b) ∧
      t.ts = .idle ∧ t.cs = false ∧ t.gh = false ∧ t.guard = .free ∧
      t.openAnswers = opens ∧ t.writeAnswers = rest ∧ t.cfg = s.cfg ∧ t.requests = s.requests ∧
      t.pending = s.pending ∧ t.agenda = []

/-- R107: the length follows the mode, 64 for the 8-cell modes, 96 for the 16-cell modes and for every other value. -/
def Obligations.LengthFollowsTheMode : Prop :=
  ∀ (c : Config) (mode : BitVec 8), c.wf = true →
    lenOf c c.mode8N = 64 ∧ lenOf c c.mode8P = 64 ∧ lenOf c c.mode16N = 96 ∧ lenOf c c.mode16P = 96 ∧
    (mode ∉ [c.mode8N, c.mode8P, c.mode16N, c.mode16P] → lenOf c mode = 96)

/-- R135: when `open` fails, `INIT` ends with TransportInitError, nothing is acquired and `LCS` stays `Uninitialized`;
the one event is the failed `Open`. -/
def Obligations.InitReportsAFailedOpen : Prop :=
  ∀ (s : State) (mode : BitVec 8) (opens : List Bool),
    s.lcs = .uninitialized → s.agenda = [] → s.openAnswers = false :: opens →
    exec (.init mode) s = .next { s with
      trace := s.trace ++ [.openCall false]
      responses := s.responses ++ [0x10#8]
      busy := false
      openAnswers := opens }

/-- R136, R110: when the allocation fails, the transport is released again and `INIT` ends with AllocationError, back in
`Uninitialized` with `LEN` 96; no command was sent. The clean-up and the return to `Uninitialized` are the spec's decision
D11, the allocation's answer its decision D16 (log 4, log 5). -/
def Obligations.InitReportsAFailedAllocation : Prop :=
  ∀ (s : State) (mode : BitVec 8) (opens allocs : List Bool),
    s.lcs = .uninitialized → s.agenda = [] → s.cfg.allocCanFail = true →
    s.openAnswers = true :: opens → s.allocAnswers = false :: allocs →
    ∃ t, exec (.init mode) s = .next t ∧
      t.trace = s.trace ++ [.openCall true, .closeCall] ∧ t.responses = s.responses ++ [0x20#8] ∧
      t.busy = false ∧ t.lcs = .uninitialized ∧ t.len = 96 ∧ t.opened = false ∧
      t.ts = s.ts ∧ t.cs = s.cs ∧ t.gh = s.gh ∧ t.guard = s.guard ∧ t.cfg = s.cfg ∧
      t.openAnswers = opens ∧ t.allocAnswers = allocs ∧ t.writeAnswers = s.writeAnswers

/-- R110, R130: when the write of command `k` of the bring-up fails, the commands before it stay sent, that transaction
is closed, nothing further is sent, the transport is released, and `INIT` ends with TransportWriteError, back in
`Uninitialized` with `LEN` 96. The clean-up before the report is the spec's decision D10, the return to `Uninitialized`
its decision D11 (log 5). -/
def Obligations.InitStopsAtAFailedCommand : Prop :=
  ∀ (s : State) (mode : BitVec 8) (k : Nat) (rest : List Bool),
    s.lcs = .uninitialized → s.unhindered → s.openAnswers.head? = some true →
    (s.cfg.allocCanFail = true → s.allocAnswers.head? = some true) →
    k < 8 → s.writeAnswers = List.replicate k true ++ false :: rest →
    ∃ t, exec (.init mode) s = .next t ∧
      t.trace = s.trace ++ [.openCall true] ++ separateTransactions ((bringUpUnits s.cfg mode).take k) ++
        failedEvents [] (((bringUpUnits s.cfg mode)[k]?).getD []) ++ [.closeCall] ∧
      t.responses = s.responses ++ [0x30#8] ∧ t.busy = false ∧ t.lcs = .uninitialized ∧ t.len = 96 ∧
      t.opened = false ∧ t.ts = .idle ∧ t.cs = false ∧ t.gh = false ∧ t.guard = .free ∧
      t.writeAnswers = rest ∧ t.cfg = s.cfg

/-- R110, R130: the same when unit `k` of the blank frame fails (the spec's decisions D10 and D11, log 5). -/
def Obligations.InitStopsAtAFailedFrameUnit : Prop :=
  ∀ (s : State) (mode : BitVec 8) (k : Nat) (rest : List Bool),
    s.lcs = .uninitialized → s.unhindered → s.openAnswers.head? = some true →
    (s.cfg.allocCanFail = true → s.allocAnswers.head? = some true) →
    k < 1 + lenOf s.cfg mode / 2 → s.writeAnswers = List.replicate (8 + k) true ++ false :: rest →
    ∃ t, exec (.init mode) s = .next t ∧
      t.trace = s.trace ++ [.openCall true] ++ separateTransactions (bringUpUnits s.cfg mode) ++
        failedEvents ((frameUnits s.cfg (Vector.replicate physCells 0#4) (lenOf s.cfg mode)).take k)
          (((frameUnits s.cfg (Vector.replicate physCells 0#4) (lenOf s.cfg mode))[k]?).getD []) ++ [.closeCall] ∧
      t.responses = s.responses ++ [0x30#8] ∧ t.busy = false ∧ t.lcs = .uninitialized ∧ t.len = 96 ∧
      t.opened = false ∧ t.ts = .idle ∧ t.cs = false ∧ t.gh = false ∧ t.guard = .free ∧
      t.writeAnswers = rest ∧ t.cfg = s.cfg

/-- R112, R113: `CLOSE` in `Active` produces the event `Close`, releases the transport, goes to `Closed` and answers OK,
with no chip-select activity; in every other state it does nothing and answers OK; so a second `CLOSE` adds no event.
The Framebuffer's contents after it are left open (R112). -/
def Obligations.CloseReleasesOnceAndIsIdempotent : Prop :=
  ∀ s : State,
    (s.lcs = .active → ∃ t, exec .close s = .next t ∧
      t = { s with
        fb := t.fb
        fresh := t.fresh
        lcs := .closed
        opened := false
        trace := s.trace ++ [.closeCall]
        responses := s.responses ++ [0x00#8]
        busy := false } ∧
      exec .close t = .next { t with responses := t.responses ++ [0x00#8] }) ∧
    (s.lcs ≠ .active → exec .close s = .next { s with responses := s.responses ++ [0x00#8], busy := false })

/-- R114: `Closed` is terminal: no step of any agent but the reset input leaves it. -/
def Obligations.OnlyResetLeavesClosed : Prop :=
  ∀ s t : State, s.Inv → s.lcs = .closed → s.agenda.head? ≠ some .reset → step s = .next t → t.lcs = .closed

/-! ### The transaction sequencer and the other agents -/

/-- R122 to R127: which step each phase enables, the phase, the lock's owner and the event it leads to; R123's grant is
enabled only while the lock is free. -/
def Obligations.TransactionStepsFollowTheTable : Prop :=
  ∀ s : State,
    (s.ts = .idle → ∃ t, micro .requestGuard s = .go t [] ∧
      t.ts = .wait ∧ t.guard = s.guard ∧ t.trace = s.trace ++ [.guardRequest]) ∧
    (s.ts = .wait → s.guard = .free → ∃ t, micro .takeGrant s = .go t [] ∧
      t.ts = .locked ∧ t.gh = true ∧ t.guard = .framer ∧ t.trace = s.trace ++ [.guardGrant]) ∧
    (s.ts = .locked → ∃ t, micro .assertSelect s = .go t [] ∧
      t.ts = .selected ∧ t.cs = true ∧ t.guard = s.guard ∧ t.trace = s.trace ++ [.selectAssert]) ∧
    (s.ts = .selected → ∃ t, micro .deassertSelect s = .go t [] ∧
      t.ts = .deselected ∧ t.cs = false ∧ t.guard = s.guard ∧ t.trace = s.trace ++ [.selectDeassert]) ∧
    (s.ts = .deselected → ∃ t, micro .releaseGuard s = .go t [] ∧
      t.ts = .idle ∧ t.gh = false ∧ t.guard = .free ∧ t.trace = s.trace ++ [.guardRelease]) ∧
    (s.ts = .selected → ∃ t, micro .writeStaged s = .go t [] ∧
      t.ts = .selected ∧ t.guard = s.guard ∧ t.trace = s.trace ++ [.write (memoryOrder s.stg) (drawWrite s).1]) ∧
    (s.guard ≠ .free ∨ s.ts ≠ .wait → micro .takeGrant s = .stuck) ∧
    (s.ts ≠ .idle → micro .requestGuard s = .stuck) ∧ (s.ts ≠ .locked → micro .assertSelect s = .stuck) ∧
    (s.ts ≠ .selected → micro .writeStaged s = .stuck ∧ micro .deassertSelect s = .stuck) ∧
    (s.ts ≠ .deselected → micro .releaseGuard s = .stuck)

/-- R123, R129: while another user holds the lock, every request that opens a transaction (`SET_BRIGHTNESS`,
`TRANSMIT_FRAME`, `INIT` after its acquisition) waits in `T_WAIT` after its first `GuardRequest`, with no response and no
further step of its own; when the lock is given back, the next step carries it to the very state it ends in when the lock
was free from the start, with its one response, whatever the transport answers. That a waiting machine's step leaves the
state as it is, is the model's form of having no step (log 20). -/
def Obligations.WaitsForTheLockAndThenGoesOn : Prop :=
  ∀ (s : State) (i : Instr) (l : Lifecycle),
    i.sendsFrom = some l → s.lcs = l → legalLen s.len → s.ts = .idle → s.guard = .other → s.agenda = [] →
    s.pending = [] →
    (∀ mode, i = .init mode → s.openAnswers.head? = some true ∧
      (s.cfg.allocCanFail = true → s.allocAnswers.head? = some true)) →
    ∃ t u response, exec i s = .next t ∧
      ((∀ mode, i ≠ .init mode) → t.trace = s.trace ++ [.guardRequest]) ∧
      (∀ mode, i = .init mode → t.trace = s.trace ++ [.openCall true, .guardRequest]) ∧
      t.responses = s.responses ∧ t.busy = s.busy ∧ t.ts = .wait ∧ t.guard = .other ∧ step t = .next t ∧
      step { t with guard := .free } = .next u ∧ exec i { s with guard := .free } = .next u ∧
      u.responses = s.responses ++ [response] ∧ u.ts = .idle ∧ u.guard = .free ∧ u.pending = []

/-- R129, R132, R143: other users of the lock delay a request and never change its result. Under every schedule of the
framer's and the others' moves, the request either still waits for the lock, or it ended in the very state it ends in
when the lock is free and nobody else moves, but for the lock's owner and the rest of the schedule. -/
def Obligations.OtherBusUsersNeverChangeAResult : Prop :=
  ∀ (s t t₀ : State) (i : Instr),
    i.isRequest = true → s.ts = .idle → s.guard ≠ .framer → s.pending = [] → legalLen s.len →
    s.agenda.all Turn.ordinary = true → exec i s = .next t →
    exec i { s with agenda := [], guard := .free } = .next t₀ →
    (t.pending ≠ [] ∧ t.ts = .wait ∧ t.guard = .other ∧ t.agenda = [] ∧ t.responses = s.responses) ∨
    t = { t₀ with agenda := t.agenda, guard := t.guard }

/-- R61, R129, R130: with the lock free, every request ends with exactly one response and with chip-select deasserted
and the lock released, whatever the transport and the allocation answer. That the bus is clean after a failed write is the
spec's decision D10 (log 5). -/
def Obligations.EveryRequestEndsWithOneResponse : Prop :=
  ∀ (s : State) (i : Instr),
    i.isRequest = true → s.unhindered → s.cs = false → s.gh = false → legalLen s.len →
    ∃ t response, exec i s = .next t ∧ t.responses = s.responses ++ [response] ∧ t.busy = false ∧
      t.pending = s.pending ∧ t.ts = .idle ∧ t.cs = false ∧ t.gh = false ∧ t.guard = .free

/-- R132: the moves of another bus user change the lock's owner and nothing else: from Free to Other, from Other to Free. -/
def Obligations.OtherUsersMoveOnlyTheLock : Prop :=
  ∀ (s : State) (turns : List Turn),
    (s.agenda = .otherTakes :: turns → ∃ t, step s = .next t ∧
      t = { s with agenda := turns, guard := t.guard } ∧
      t.guard = (match s.guard with | .free => .other | .framer => .framer | .other => .other)) ∧
    (s.agenda = .otherReleases :: turns → ∃ t, step s = .next t ∧
      t = { s with agenda := turns, guard := t.guard } ∧
      t.guard = (match s.guard with | .free => .free | .framer => .framer | .other => .free))

/-- R155: the reset input on an idle block sets the registers to R24's values, produces no event, and leaves the trace,
the transport and the lock as they are; while a request is in progress it is refused. -/
def Obligations.ResetSetsTheRegistersAndNothingOutside : Prop :=
  ∀ (s : State) (turns : List Turn), s.agenda = .reset :: turns →
    (s.busy = true → step s = .refused .resetWhileBusy) ∧
    (s.busy = false → ∃ t, step s = .next t ∧ t.lcs = .uninitialized ∧ t.len = 96 ∧ t.cs = false ∧ t.gh = false ∧
      t.ts = .idle ∧ t.busy = false ∧ t.trace = s.trace ∧ t.opened = s.opened ∧ t.guard = s.guard ∧
      t.responses = s.responses ∧ t.requests = s.requests ∧ t.cfg = s.cfg)

/-! ### The whole machine -/

/-- R131: on an idle block whose move it is, a step accepts the next request word, sets `BUSY`, and runs exactly the
instruction the word decodes to; with no word it waits, and while `BUSY = 1` it takes none. With a request in progress a
step carries out the steps it has left, and whosever move it is, no word is taken while `BUSY = 1`. -/
def Obligations.StepRunsTheDecodedRequest : Prop :=
  ∀ s : State,
    (∀ w rest, s.pending = [] → s.agenda = [] → s.busy = false → s.requests = w :: rest →
      step s = exec (decodeRequest w) { s with requests := rest, busy := true }) ∧
    (∀ w rest turns, s.pending = [] → s.agenda = .framer :: turns → s.busy = false → s.requests = w :: rest →
      step s = exec (decodeRequest w) { s with requests := rest, busy := true, agenda := turns }) ∧
    (s.pending = [] → s.agenda = [] → s.busy = false → s.requests = [] → step s = .next s) ∧
    (s.pending = [] → s.agenda = [] → s.busy = true → step s = .next s) ∧
    (s.pending ≠ [] → s.agenda = [] → step s = .next (run s.pending { s with pending := [] })) ∧
    (s.busy = true → ∀ t, step s = .next t → t.requests = s.requests)

/-- No step of the machine faults, and the one refusal is the reset while a request is in progress (R140, R155). -/
def Obligations.StepsNeverFaultAndRefuseOnlyABusyReset : Prop :=
  ∀ s : State, (∃ t, step s = .next t) ∨
    (s.busy = true ∧ s.agenda.head? = some .reset ∧ step s = .refused .resetWhileBusy)

/-- R16, R18, R19, R61, R121, R131, R149: every step of every agent keeps the invariant: the legal length, the flags
that follow the phase, the lock, one response per request, the transport held while it is needed, and a trace that
follows the protocol: one or more units in a transaction, a 2-byte one and then 1-byte ones, as many as a command or a
frame has, and none after a failed one (R41, R97, R130). -/
def Obligations.EveryStepKeepsTheInvariant : Prop :=
  ∀ s t : State, s.Inv → step s = .next t → t.Inv

/-- The invariant holds after reset. -/
def Obligations.ResetSatisfiesTheInvariant : Prop := State.reset.Inv

/-- R13, R17, R18: only `SET_CELL`, `CLEAR`, `INIT` and `CLOSE` can change what the store holds, and only `INIT` can
change `MODE` and `LEN`. -/
def Obligations.OnlyTheNamedRequestsWriteTheStoreAndTheMode : Prop :=
  ∀ (s t : State) (i : Instr), exec i s = .next t →
    (t.fb ≠ s.fb → (∃ a b v, i = .setCell a b v) ∨ i = .clear ∨ (∃ mode, i = .init mode) ∨ i = .close) ∧
    (t.mode ≠ s.mode ∨ t.len ≠ s.len → ∃ mode, i = .init mode)

/-- The trace and the responses are records: no step of any agent, reset included, erases or changes what is in them
(R120, R155), and no step changes the implementation parameters. -/
def Obligations.StepsOnlyAppendToTheRecords : Prop :=
  ∀ s t : State, step s = .next t → s.trace <+: t.trace ∧ s.responses <+: t.responses ∧ t.cfg = s.cfg
end

