-- ==== Sys2Proof/Laws/State.lean ====
section
/-! SUPPORT. What each named update of the state does to each field: one lemma per field per update. -/

namespace Sys2Proof.Machine

/-! ### drawOpen -/

@[simp] theorem drawOpen_fb (s : State) : (drawOpen s).2.fb = s.fb := by unfold drawOpen; split <;> rfl
@[simp] theorem drawOpen_lcs (s : State) : (drawOpen s).2.lcs = s.lcs := by unfold drawOpen; split <;> rfl
@[simp] theorem drawOpen_mode (s : State) : (drawOpen s).2.mode = s.mode := by unfold drawOpen; split <;> rfl
@[simp] theorem drawOpen_len (s : State) : (drawOpen s).2.len = s.len := by unfold drawOpen; split <;> rfl
@[simp] theorem drawOpen_cs (s : State) : (drawOpen s).2.cs = s.cs := by unfold drawOpen; split <;> rfl
@[simp] theorem drawOpen_gh (s : State) : (drawOpen s).2.gh = s.gh := by unfold drawOpen; split <;> rfl
@[simp] theorem drawOpen_ts (s : State) : (drawOpen s).2.ts = s.ts := by unfold drawOpen; split <;> rfl
@[simp] theorem drawOpen_cur (s : State) : (drawOpen s).2.cur = s.cur := by unfold drawOpen; split <;> rfl
@[simp] theorem drawOpen_acc (s : State) : (drawOpen s).2.acc = s.acc := by unfold drawOpen; split <;> rfl
@[simp] theorem drawOpen_nb (s : State) : (drawOpen s).2.nb = s.nb := by unfold drawOpen; split <;> rfl
@[simp] theorem drawOpen_stg (s : State) : (drawOpen s).2.stg = s.stg := by unfold drawOpen; split <;> rfl
@[simp] theorem drawOpen_busy (s : State) : (drawOpen s).2.busy = s.busy := by unfold drawOpen; split <;> rfl
@[simp] theorem drawOpen_guard (s : State) : (drawOpen s).2.guard = s.guard := by unfold drawOpen; split <;> rfl
@[simp] theorem drawOpen_trace (s : State) : (drawOpen s).2.trace = s.trace := by unfold drawOpen; split <;> rfl
@[simp] theorem drawOpen_opened (s : State) : (drawOpen s).2.opened = s.opened := by unfold drawOpen; split <;> rfl
@[simp] theorem drawOpen_requests (s : State) : (drawOpen s).2.requests = s.requests := by unfold drawOpen; split <;> rfl
@[simp] theorem drawOpen_responses (s : State) : (drawOpen s).2.responses = s.responses := by unfold drawOpen; split <;> rfl
@[simp] theorem drawOpen_agenda (s : State) : (drawOpen s).2.agenda = s.agenda := by unfold drawOpen; split <;> rfl
@[simp] theorem drawOpen_allocAnswers (s : State) : (drawOpen s).2.allocAnswers = s.allocAnswers := by unfold drawOpen; split <;> rfl
@[simp] theorem drawOpen_writeAnswers (s : State) : (drawOpen s).2.writeAnswers = s.writeAnswers := by unfold drawOpen; split <;> rfl
@[simp] theorem drawOpen_cfg (s : State) : (drawOpen s).2.cfg = s.cfg := by unfold drawOpen; split <;> rfl
@[simp] theorem drawOpen_pending (s : State) : (drawOpen s).2.pending = s.pending := by unfold drawOpen; split <;> rfl
@[simp] theorem drawOpen_ok (s : State) : (drawOpen s).2.ok = s.ok := by unfold drawOpen; split <;> rfl

/-! ### drawAlloc -/

@[simp] theorem drawAlloc_fb (s : State) : (drawAlloc s).2.fb = s.fb := by unfold drawAlloc; split <;> (try split) <;> rfl
@[simp] theorem drawAlloc_lcs (s : State) : (drawAlloc s).2.lcs = s.lcs := by unfold drawAlloc; split <;> (try split) <;> rfl
@[simp] theorem drawAlloc_mode (s : State) : (drawAlloc s).2.mode = s.mode := by unfold drawAlloc; split <;> (try split) <;> rfl
@[simp] theorem drawAlloc_len (s : State) : (drawAlloc s).2.len = s.len := by unfold drawAlloc; split <;> (try split) <;> rfl
@[simp] theorem drawAlloc_cs (s : State) : (drawAlloc s).2.cs = s.cs := by unfold drawAlloc; split <;> (try split) <;> rfl
@[simp] theorem drawAlloc_gh (s : State) : (drawAlloc s).2.gh = s.gh := by unfold drawAlloc; split <;> (try split) <;> rfl
@[simp] theorem drawAlloc_ts (s : State) : (drawAlloc s).2.ts = s.ts := by unfold drawAlloc; split <;> (try split) <;> rfl
@[simp] theorem drawAlloc_cur (s : State) : (drawAlloc s).2.cur = s.cur := by unfold drawAlloc; split <;> (try split) <;> rfl
@[simp] theorem drawAlloc_acc (s : State) : (drawAlloc s).2.acc = s.acc := by unfold drawAlloc; split <;> (try split) <;> rfl
@[simp] theorem drawAlloc_nb (s : State) : (drawAlloc s).2.nb = s.nb := by unfold drawAlloc; split <;> (try split) <;> rfl
@[simp] theorem drawAlloc_stg (s : State) : (drawAlloc s).2.stg = s.stg := by unfold drawAlloc; split <;> (try split) <;> rfl
@[simp] theorem drawAlloc_busy (s : State) : (drawAlloc s).2.busy = s.busy := by unfold drawAlloc; split <;> (try split) <;> rfl
@[simp] theorem drawAlloc_guard (s : State) : (drawAlloc s).2.guard = s.guard := by unfold drawAlloc; split <;> (try split) <;> rfl
@[simp] theorem drawAlloc_trace (s : State) : (drawAlloc s).2.trace = s.trace := by unfold drawAlloc; split <;> (try split) <;> rfl
@[simp] theorem drawAlloc_opened (s : State) : (drawAlloc s).2.opened = s.opened := by unfold drawAlloc; split <;> (try split) <;> rfl
@[simp] theorem drawAlloc_requests (s : State) : (drawAlloc s).2.requests = s.requests := by unfold drawAlloc; split <;> (try split) <;> rfl
@[simp] theorem drawAlloc_responses (s : State) : (drawAlloc s).2.responses = s.responses := by unfold drawAlloc; split <;> (try split) <;> rfl
@[simp] theorem drawAlloc_agenda (s : State) : (drawAlloc s).2.agenda = s.agenda := by unfold drawAlloc; split <;> (try split) <;> rfl
@[simp] theorem drawAlloc_openAnswers (s : State) : (drawAlloc s).2.openAnswers = s.openAnswers := by unfold drawAlloc; split <;> (try split) <;> rfl
@[simp] theorem drawAlloc_writeAnswers (s : State) : (drawAlloc s).2.writeAnswers = s.writeAnswers := by unfold drawAlloc; split <;> (try split) <;> rfl
@[simp] theorem drawAlloc_cfg (s : State) : (drawAlloc s).2.cfg = s.cfg := by unfold drawAlloc; split <;> (try split) <;> rfl
@[simp] theorem drawAlloc_pending (s : State) : (drawAlloc s).2.pending = s.pending := by unfold drawAlloc; split <;> (try split) <;> rfl
@[simp] theorem drawAlloc_ok (s : State) : (drawAlloc s).2.ok = s.ok := by unfold drawAlloc; split <;> (try split) <;> rfl

/-! ### drawWrite -/

@[simp] theorem drawWrite_fb (s : State) : (drawWrite s).2.fb = s.fb := by unfold drawWrite; split <;> rfl
@[simp] theorem drawWrite_lcs (s : State) : (drawWrite s).2.lcs = s.lcs := by unfold drawWrite; split <;> rfl
@[simp] theorem drawWrite_mode (s : State) : (drawWrite s).2.mode = s.mode := by unfold drawWrite; split <;> rfl
@[simp] theorem drawWrite_len (s : State) : (drawWrite s).2.len = s.len := by unfold drawWrite; split <;> rfl
@[simp] theorem drawWrite_cs (s : State) : (drawWrite s).2.cs = s.cs := by unfold drawWrite; split <;> rfl
@[simp] theorem drawWrite_gh (s : State) : (drawWrite s).2.gh = s.gh := by unfold drawWrite; split <;> rfl
@[simp] theorem drawWrite_ts (s : State) : (drawWrite s).2.ts = s.ts := by unfold drawWrite; split <;> rfl
@[simp] theorem drawWrite_cur (s : State) : (drawWrite s).2.cur = s.cur := by unfold drawWrite; split <;> rfl
@[simp] theorem drawWrite_acc (s : State) : (drawWrite s).2.acc = s.acc := by unfold drawWrite; split <;> rfl
@[simp] theorem drawWrite_nb (s : State) : (drawWrite s).2.nb = s.nb := by unfold drawWrite; split <;> rfl
@[simp] theorem drawWrite_stg (s : State) : (drawWrite s).2.stg = s.stg := by unfold drawWrite; split <;> rfl
@[simp] theorem drawWrite_busy (s : State) : (drawWrite s).2.busy = s.busy := by unfold drawWrite; split <;> rfl
@[simp] theorem drawWrite_guard (s : State) : (drawWrite s).2.guard = s.guard := by unfold drawWrite; split <;> rfl
@[simp] theorem drawWrite_trace (s : State) : (drawWrite s).2.trace = s.trace := by unfold drawWrite; split <;> rfl
@[simp] theorem drawWrite_opened (s : State) : (drawWrite s).2.opened = s.opened := by unfold drawWrite; split <;> rfl
@[simp] theorem drawWrite_requests (s : State) : (drawWrite s).2.requests = s.requests := by unfold drawWrite; split <;> rfl
@[simp] theorem drawWrite_responses (s : State) : (drawWrite s).2.responses = s.responses := by unfold drawWrite; split <;> rfl
@[simp] theorem drawWrite_agenda (s : State) : (drawWrite s).2.agenda = s.agenda := by unfold drawWrite; split <;> rfl
@[simp] theorem drawWrite_openAnswers (s : State) : (drawWrite s).2.openAnswers = s.openAnswers := by unfold drawWrite; split <;> rfl
@[simp] theorem drawWrite_allocAnswers (s : State) : (drawWrite s).2.allocAnswers = s.allocAnswers := by unfold drawWrite; split <;> rfl
@[simp] theorem drawWrite_cfg (s : State) : (drawWrite s).2.cfg = s.cfg := by unfold drawWrite; split <;> rfl
@[simp] theorem drawWrite_pending (s : State) : (drawWrite s).2.pending = s.pending := by unfold drawWrite; split <;> rfl
@[simp] theorem drawWrite_ok (s : State) : (drawWrite s).2.ok = s.ok := by unfold drawWrite; split <;> rfl
@[simp] theorem drawWrite_writeAnswers (s : State) : (drawWrite s).2.writeAnswers = s.writeAnswers.tail := by
  unfold drawWrite; cases s.writeAnswers <;> simp

/-! ### emit -/

@[simp] theorem emit_fb (e : Event) (s : State) : (emit e s).fb = s.fb := rfl
@[simp] theorem emit_lcs (e : Event) (s : State) : (emit e s).lcs = s.lcs := rfl
@[simp] theorem emit_mode (e : Event) (s : State) : (emit e s).mode = s.mode := rfl
@[simp] theorem emit_len (e : Event) (s : State) : (emit e s).len = s.len := rfl
@[simp] theorem emit_cs (e : Event) (s : State) : (emit e s).cs = s.cs := rfl
@[simp] theorem emit_gh (e : Event) (s : State) : (emit e s).gh = s.gh := rfl
@[simp] theorem emit_ts (e : Event) (s : State) : (emit e s).ts = s.ts := rfl
@[simp] theorem emit_cur (e : Event) (s : State) : (emit e s).cur = s.cur := rfl
@[simp] theorem emit_acc (e : Event) (s : State) : (emit e s).acc = s.acc := rfl
@[simp] theorem emit_nb (e : Event) (s : State) : (emit e s).nb = s.nb := rfl
@[simp] theorem emit_stg (e : Event) (s : State) : (emit e s).stg = s.stg := rfl
@[simp] theorem emit_busy (e : Event) (s : State) : (emit e s).busy = s.busy := rfl
@[simp] theorem emit_guard (e : Event) (s : State) : (emit e s).guard = s.guard := rfl
@[simp] theorem emit_trace (e : Event) (s : State) : (emit e s).trace = s.trace ++ [e] := rfl
@[simp] theorem emit_opened (e : Event) (s : State) : (emit e s).opened = s.opened := rfl
@[simp] theorem emit_requests (e : Event) (s : State) : (emit e s).requests = s.requests := rfl
@[simp] theorem emit_responses (e : Event) (s : State) : (emit e s).responses = s.responses := rfl
@[simp] theorem emit_agenda (e : Event) (s : State) : (emit e s).agenda = s.agenda := rfl
@[simp] theorem emit_openAnswers (e : Event) (s : State) : (emit e s).openAnswers = s.openAnswers := rfl
@[simp] theorem emit_allocAnswers (e : Event) (s : State) : (emit e s).allocAnswers = s.allocAnswers := rfl
@[simp] theorem emit_writeAnswers (e : Event) (s : State) : (emit e s).writeAnswers = s.writeAnswers := rfl
@[simp] theorem emit_cfg (e : Event) (s : State) : (emit e s).cfg = s.cfg := rfl
@[simp] theorem emit_pending (e : Event) (s : State) : (emit e s).pending = s.pending := rfl
@[simp] theorem emit_ok (e : Event) (s : State) : (emit e s).ok = s.ok := rfl
@[simp] theorem emit_fresh (e : Event) (s : State) : (emit e s).fresh = s.fresh := rfl

/-! ### setPhase -/

@[simp] theorem setPhase_fb (p : Phase) (s : State) : (setPhase p s).fb = s.fb := rfl
@[simp] theorem setPhase_lcs (p : Phase) (s : State) : (setPhase p s).lcs = s.lcs := rfl
@[simp] theorem setPhase_mode (p : Phase) (s : State) : (setPhase p s).mode = s.mode := rfl
@[simp] theorem setPhase_len (p : Phase) (s : State) : (setPhase p s).len = s.len := rfl
@[simp] theorem setPhase_cs (p : Phase) (s : State) : (setPhase p s).cs = csOf p := rfl
@[simp] theorem setPhase_gh (p : Phase) (s : State) : (setPhase p s).gh = ghOf p := rfl
@[simp] theorem setPhase_ts (p : Phase) (s : State) : (setPhase p s).ts = p := rfl
@[simp] theorem setPhase_cur (p : Phase) (s : State) : (setPhase p s).cur = s.cur := rfl
@[simp] theorem setPhase_acc (p : Phase) (s : State) : (setPhase p s).acc = s.acc := rfl
@[simp] theorem setPhase_nb (p : Phase) (s : State) : (setPhase p s).nb = s.nb := rfl
@[simp] theorem setPhase_stg (p : Phase) (s : State) : (setPhase p s).stg = s.stg := rfl
@[simp] theorem setPhase_busy (p : Phase) (s : State) : (setPhase p s).busy = s.busy := rfl
@[simp] theorem setPhase_guard (p : Phase) (s : State) : (setPhase p s).guard = s.guard := rfl
@[simp] theorem setPhase_trace (p : Phase) (s : State) : (setPhase p s).trace = s.trace := rfl
@[simp] theorem setPhase_opened (p : Phase) (s : State) : (setPhase p s).opened = s.opened := rfl
@[simp] theorem setPhase_requests (p : Phase) (s : State) : (setPhase p s).requests = s.requests := rfl
@[simp] theorem setPhase_responses (p : Phase) (s : State) : (setPhase p s).responses = s.responses := rfl
@[simp] theorem setPhase_agenda (p : Phase) (s : State) : (setPhase p s).agenda = s.agenda := rfl
@[simp] theorem setPhase_openAnswers (p : Phase) (s : State) : (setPhase p s).openAnswers = s.openAnswers := rfl
@[simp] theorem setPhase_allocAnswers (p : Phase) (s : State) : (setPhase p s).allocAnswers = s.allocAnswers := rfl
@[simp] theorem setPhase_writeAnswers (p : Phase) (s : State) : (setPhase p s).writeAnswers = s.writeAnswers := rfl
@[simp] theorem setPhase_cfg (p : Phase) (s : State) : (setPhase p s).cfg = s.cfg := rfl
@[simp] theorem setPhase_pending (p : Phase) (s : State) : (setPhase p s).pending = s.pending := rfl
@[simp] theorem setPhase_ok (p : Phase) (s : State) : (setPhase p s).ok = s.ok := rfl
@[simp] theorem setPhase_fresh (p : Phase) (s : State) : (setPhase p s).fresh = s.fresh := rfl

/-! ### forgetStaging -/

@[simp] theorem forgetStaging_fb (s : State) : (forgetStaging s).fb = s.fb := rfl
@[simp] theorem forgetStaging_lcs (s : State) : (forgetStaging s).lcs = s.lcs := rfl
@[simp] theorem forgetStaging_mode (s : State) : (forgetStaging s).mode = s.mode := rfl
@[simp] theorem forgetStaging_len (s : State) : (forgetStaging s).len = s.len := rfl
@[simp] theorem forgetStaging_cs (s : State) : (forgetStaging s).cs = s.cs := rfl
@[simp] theorem forgetStaging_gh (s : State) : (forgetStaging s).gh = s.gh := rfl
@[simp] theorem forgetStaging_ts (s : State) : (forgetStaging s).ts = s.ts := rfl
@[simp] theorem forgetStaging_cur (s : State) : (forgetStaging s).cur = s.cur := rfl
@[simp] theorem forgetStaging_acc (s : State) : (forgetStaging s).acc = s.acc := rfl
@[simp] theorem forgetStaging_nb (s : State) : (forgetStaging s).nb = s.nb := rfl
@[simp] theorem forgetStaging_stg (s : State) : (forgetStaging s).stg = Config.freeStaging s.fresh := rfl
@[simp] theorem forgetStaging_busy (s : State) : (forgetStaging s).busy = s.busy := rfl
@[simp] theorem forgetStaging_guard (s : State) : (forgetStaging s).guard = s.guard := rfl
@[simp] theorem forgetStaging_trace (s : State) : (forgetStaging s).trace = s.trace := rfl
@[simp] theorem forgetStaging_opened (s : State) : (forgetStaging s).opened = s.opened := rfl
@[simp] theorem forgetStaging_requests (s : State) : (forgetStaging s).requests = s.requests := rfl
@[simp] theorem forgetStaging_responses (s : State) : (forgetStaging s).responses = s.responses := rfl
@[simp] theorem forgetStaging_agenda (s : State) : (forgetStaging s).agenda = s.agenda := rfl
@[simp] theorem forgetStaging_openAnswers (s : State) : (forgetStaging s).openAnswers = s.openAnswers := rfl
@[simp] theorem forgetStaging_allocAnswers (s : State) : (forgetStaging s).allocAnswers = s.allocAnswers := rfl
@[simp] theorem forgetStaging_writeAnswers (s : State) : (forgetStaging s).writeAnswers = s.writeAnswers := rfl
@[simp] theorem forgetStaging_cfg (s : State) : (forgetStaging s).cfg = s.cfg := rfl
@[simp] theorem forgetStaging_pending (s : State) : (forgetStaging s).pending = s.pending := rfl
@[simp] theorem forgetStaging_ok (s : State) : (forgetStaging s).ok = s.ok := rfl
@[simp] theorem forgetStaging_fresh (s : State) : (forgetStaging s).fresh = s.fresh + 1 := rfl

/-! ### forgetFrame -/

@[simp] theorem forgetFrame_fb (s : State) : (forgetFrame s).fb = s.fb := rfl
@[simp] theorem forgetFrame_lcs (s : State) : (forgetFrame s).lcs = s.lcs := rfl
@[simp] theorem forgetFrame_mode (s : State) : (forgetFrame s).mode = s.mode := rfl
@[simp] theorem forgetFrame_len (s : State) : (forgetFrame s).len = s.len := rfl
@[simp] theorem forgetFrame_cs (s : State) : (forgetFrame s).cs = s.cs := rfl
@[simp] theorem forgetFrame_gh (s : State) : (forgetFrame s).gh = s.gh := rfl
@[simp] theorem forgetFrame_ts (s : State) : (forgetFrame s).ts = s.ts := rfl
@[simp] theorem forgetFrame_cur (s : State) : (forgetFrame s).cur = Config.freeCursor s.fresh := rfl
@[simp] theorem forgetFrame_acc (s : State) : (forgetFrame s).acc = Config.freeAccumulator s.fresh := rfl
@[simp] theorem forgetFrame_nb (s : State) : (forgetFrame s).nb = Config.freeBitCount s.fresh := rfl
@[simp] theorem forgetFrame_stg (s : State) : (forgetFrame s).stg = s.stg := rfl
@[simp] theorem forgetFrame_busy (s : State) : (forgetFrame s).busy = s.busy := rfl
@[simp] theorem forgetFrame_guard (s : State) : (forgetFrame s).guard = s.guard := rfl
@[simp] theorem forgetFrame_trace (s : State) : (forgetFrame s).trace = s.trace := rfl
@[simp] theorem forgetFrame_opened (s : State) : (forgetFrame s).opened = s.opened := rfl
@[simp] theorem forgetFrame_requests (s : State) : (forgetFrame s).requests = s.requests := rfl
@[simp] theorem forgetFrame_responses (s : State) : (forgetFrame s).responses = s.responses := rfl
@[simp] theorem forgetFrame_agenda (s : State) : (forgetFrame s).agenda = s.agenda := rfl
@[simp] theorem forgetFrame_openAnswers (s : State) : (forgetFrame s).openAnswers = s.openAnswers := rfl
@[simp] theorem forgetFrame_allocAnswers (s : State) : (forgetFrame s).allocAnswers = s.allocAnswers := rfl
@[simp] theorem forgetFrame_writeAnswers (s : State) : (forgetFrame s).writeAnswers = s.writeAnswers := rfl
@[simp] theorem forgetFrame_cfg (s : State) : (forgetFrame s).cfg = s.cfg := rfl
@[simp] theorem forgetFrame_pending (s : State) : (forgetFrame s).pending = s.pending := rfl
@[simp] theorem forgetFrame_ok (s : State) : (forgetFrame s).ok = s.ok := rfl
@[simp] theorem forgetFrame_fresh (s : State) : (forgetFrame s).fresh = s.fresh + 1 := rfl

/-! ### forgetStore -/

@[simp] theorem forgetStore_fb (s : State) : (forgetStore s).fb = Config.freeStore s.fresh := rfl
@[simp] theorem forgetStore_lcs (s : State) : (forgetStore s).lcs = s.lcs := rfl
@[simp] theorem forgetStore_mode (s : State) : (forgetStore s).mode = s.mode := rfl
@[simp] theorem forgetStore_len (s : State) : (forgetStore s).len = s.len := rfl
@[simp] theorem forgetStore_cs (s : State) : (forgetStore s).cs = s.cs := rfl
@[simp] theorem forgetStore_gh (s : State) : (forgetStore s).gh = s.gh := rfl
@[simp] theorem forgetStore_ts (s : State) : (forgetStore s).ts = s.ts := rfl
@[simp] theorem forgetStore_cur (s : State) : (forgetStore s).cur = s.cur := rfl
@[simp] theorem forgetStore_acc (s : State) : (forgetStore s).acc = s.acc := rfl
@[simp] theorem forgetStore_nb (s : State) : (forgetStore s).nb = s.nb := rfl
@[simp] theorem forgetStore_stg (s : State) : (forgetStore s).stg = s.stg := rfl
@[simp] theorem forgetStore_busy (s : State) : (forgetStore s).busy = s.busy := rfl
@[simp] theorem forgetStore_guard (s : State) : (forgetStore s).guard = s.guard := rfl
@[simp] theorem forgetStore_trace (s : State) : (forgetStore s).trace = s.trace := rfl
@[simp] theorem forgetStore_opened (s : State) : (forgetStore s).opened = s.opened := rfl
@[simp] theorem forgetStore_requests (s : State) : (forgetStore s).requests = s.requests := rfl
@[simp] theorem forgetStore_responses (s : State) : (forgetStore s).responses = s.responses := rfl
@[simp] theorem forgetStore_agenda (s : State) : (forgetStore s).agenda = s.agenda := rfl
@[simp] theorem forgetStore_openAnswers (s : State) : (forgetStore s).openAnswers = s.openAnswers := rfl
@[simp] theorem forgetStore_allocAnswers (s : State) : (forgetStore s).allocAnswers = s.allocAnswers := rfl
@[simp] theorem forgetStore_writeAnswers (s : State) : (forgetStore s).writeAnswers = s.writeAnswers := rfl
@[simp] theorem forgetStore_cfg (s : State) : (forgetStore s).cfg = s.cfg := rfl
@[simp] theorem forgetStore_pending (s : State) : (forgetStore s).pending = s.pending := rfl
@[simp] theorem forgetStore_ok (s : State) : (forgetStore s).ok = s.ok := rfl
@[simp] theorem forgetStore_fresh (s : State) : (forgetStore s).fresh = s.fresh + 1 := rfl

/-! ### stageWord -/

@[simp] theorem stageWord_fb (w : Word) (s : State) : (stageWord w s).fb = s.fb := rfl
@[simp] theorem stageWord_lcs (w : Word) (s : State) : (stageWord w s).lcs = s.lcs := rfl
@[simp] theorem stageWord_mode (w : Word) (s : State) : (stageWord w s).mode = s.mode := rfl
@[simp] theorem stageWord_len (w : Word) (s : State) : (stageWord w s).len = s.len := rfl
@[simp] theorem stageWord_cs (w : Word) (s : State) : (stageWord w s).cs = s.cs := rfl
@[simp] theorem stageWord_gh (w : Word) (s : State) : (stageWord w s).gh = s.gh := rfl
@[simp] theorem stageWord_ts (w : Word) (s : State) : (stageWord w s).ts = s.ts := rfl
@[simp] theorem stageWord_cur (w : Word) (s : State) : (stageWord w s).cur = s.cur := rfl
@[simp] theorem stageWord_acc (w : Word) (s : State) : (stageWord w s).acc = s.acc := rfl
@[simp] theorem stageWord_nb (w : Word) (s : State) : (stageWord w s).nb = s.nb := rfl
@[simp] theorem stageWord_stg (w : Word) (s : State) : (stageWord w s).stg = bswap16 w := rfl
@[simp] theorem stageWord_busy (w : Word) (s : State) : (stageWord w s).busy = s.busy := rfl
@[simp] theorem stageWord_guard (w : Word) (s : State) : (stageWord w s).guard = s.guard := rfl
@[simp] theorem stageWord_trace (w : Word) (s : State) : (stageWord w s).trace = s.trace := rfl
@[simp] theorem stageWord_opened (w : Word) (s : State) : (stageWord w s).opened = s.opened := rfl
@[simp] theorem stageWord_requests (w : Word) (s : State) : (stageWord w s).requests = s.requests := rfl
@[simp] theorem stageWord_responses (w : Word) (s : State) : (stageWord w s).responses = s.responses := rfl
@[simp] theorem stageWord_agenda (w : Word) (s : State) : (stageWord w s).agenda = s.agenda := rfl
@[simp] theorem stageWord_openAnswers (w : Word) (s : State) : (stageWord w s).openAnswers = s.openAnswers := rfl
@[simp] theorem stageWord_allocAnswers (w : Word) (s : State) : (stageWord w s).allocAnswers = s.allocAnswers := rfl
@[simp] theorem stageWord_writeAnswers (w : Word) (s : State) : (stageWord w s).writeAnswers = s.writeAnswers := rfl
@[simp] theorem stageWord_cfg (w : Word) (s : State) : (stageWord w s).cfg = s.cfg := rfl
@[simp] theorem stageWord_pending (w : Word) (s : State) : (stageWord w s).pending = s.pending := rfl
@[simp] theorem stageWord_ok (w : Word) (s : State) : (stageWord w s).ok = s.ok := rfl
@[simp] theorem stageWord_fresh (w : Word) (s : State) : (stageWord w s).fresh = s.fresh := rfl

/-! ### respond -/

@[simp] theorem respond_fb (status : Status) (bit : Bool) (s : State) : (respond status bit s).fb = s.fb := rfl
@[simp] theorem respond_lcs (status : Status) (bit : Bool) (s : State) : (respond status bit s).lcs = s.lcs := rfl
@[simp] theorem respond_mode (status : Status) (bit : Bool) (s : State) : (respond status bit s).mode = s.mode := rfl
@[simp] theorem respond_len (status : Status) (bit : Bool) (s : State) : (respond status bit s).len = s.len := rfl
@[simp] theorem respond_cs (status : Status) (bit : Bool) (s : State) : (respond status bit s).cs = s.cs := rfl
@[simp] theorem respond_gh (status : Status) (bit : Bool) (s : State) : (respond status bit s).gh = s.gh := rfl
@[simp] theorem respond_ts (status : Status) (bit : Bool) (s : State) : (respond status bit s).ts = s.ts := rfl
@[simp] theorem respond_cur (status : Status) (bit : Bool) (s : State) : (respond status bit s).cur = s.cur := rfl
@[simp] theorem respond_acc (status : Status) (bit : Bool) (s : State) : (respond status bit s).acc = s.acc := rfl
@[simp] theorem respond_nb (status : Status) (bit : Bool) (s : State) : (respond status bit s).nb = s.nb := rfl
@[simp] theorem respond_stg (status : Status) (bit : Bool) (s : State) : (respond status bit s).stg = s.stg := rfl
@[simp] theorem respond_busy (status : Status) (bit : Bool) (s : State) : (respond status bit s).busy = false := rfl
@[simp] theorem respond_guard (status : Status) (bit : Bool) (s : State) : (respond status bit s).guard = s.guard := rfl
@[simp] theorem respond_trace (status : Status) (bit : Bool) (s : State) : (respond status bit s).trace = s.trace := rfl
@[simp] theorem respond_opened (status : Status) (bit : Bool) (s : State) : (respond status bit s).opened = s.opened := rfl
@[simp] theorem respond_requests (status : Status) (bit : Bool) (s : State) : (respond status bit s).requests = s.requests := rfl
@[simp] theorem respond_responses (status : Status) (bit : Bool) (s : State) : (respond status bit s).responses = s.responses ++ [responseWord status bit] := rfl
@[simp] theorem respond_agenda (status : Status) (bit : Bool) (s : State) : (respond status bit s).agenda = s.agenda := rfl
@[simp] theorem respond_openAnswers (status : Status) (bit : Bool) (s : State) : (respond status bit s).openAnswers = s.openAnswers := rfl
@[simp] theorem respond_allocAnswers (status : Status) (bit : Bool) (s : State) : (respond status bit s).allocAnswers = s.allocAnswers := rfl
@[simp] theorem respond_writeAnswers (status : Status) (bit : Bool) (s : State) : (respond status bit s).writeAnswers = s.writeAnswers := rfl
@[simp] theorem respond_cfg (status : Status) (bit : Bool) (s : State) : (respond status bit s).cfg = s.cfg := rfl
@[simp] theorem respond_pending (status : Status) (bit : Bool) (s : State) : (respond status bit s).pending = s.pending := rfl
@[simp] theorem respond_ok (status : Status) (bit : Bool) (s : State) : (respond status bit s).ok = s.ok := rfl
@[simp] theorem respond_fresh (status : Status) (bit : Bool) (s : State) : (respond status bit s).fresh = s.fresh := rfl

/-! ### clearFramebuffer -/

@[simp] theorem clearFramebuffer_fb (s : State) : (clearFramebuffer s).fb = clearCells s.len s.fb := rfl
@[simp] theorem clearFramebuffer_lcs (s : State) : (clearFramebuffer s).lcs = s.lcs := rfl
@[simp] theorem clearFramebuffer_mode (s : State) : (clearFramebuffer s).mode = s.mode := rfl
@[simp] theorem clearFramebuffer_len (s : State) : (clearFramebuffer s).len = s.len := rfl
@[simp] theorem clearFramebuffer_cs (s : State) : (clearFramebuffer s).cs = s.cs := rfl
@[simp] theorem clearFramebuffer_gh (s : State) : (clearFramebuffer s).gh = s.gh := rfl
@[simp] theorem clearFramebuffer_ts (s : State) : (clearFramebuffer s).ts = s.ts := rfl
@[simp] theorem clearFramebuffer_cur (s : State) : (clearFramebuffer s).cur = s.cur := rfl
@[simp] theorem clearFramebuffer_acc (s : State) : (clearFramebuffer s).acc = s.acc := rfl
@[simp] theorem clearFramebuffer_nb (s : State) : (clearFramebuffer s).nb = s.nb := rfl
@[simp] theorem clearFramebuffer_stg (s : State) : (clearFramebuffer s).stg = s.stg := rfl
@[simp] theorem clearFramebuffer_busy (s : State) : (clearFramebuffer s).busy = s.busy := rfl
@[simp] theorem clearFramebuffer_guard (s : State) : (clearFramebuffer s).guard = s.guard := rfl
@[simp] theorem clearFramebuffer_trace (s : State) : (clearFramebuffer s).trace = s.trace := rfl
@[simp] theorem clearFramebuffer_opened (s : State) : (clearFramebuffer s).opened = s.opened := rfl
@[simp] theorem clearFramebuffer_requests (s : State) : (clearFramebuffer s).requests = s.requests := rfl
@[simp] theorem clearFramebuffer_responses (s : State) : (clearFramebuffer s).responses = s.responses := rfl
@[simp] theorem clearFramebuffer_agenda (s : State) : (clearFramebuffer s).agenda = s.agenda := rfl
@[simp] theorem clearFramebuffer_openAnswers (s : State) : (clearFramebuffer s).openAnswers = s.openAnswers := rfl
@[simp] theorem clearFramebuffer_allocAnswers (s : State) : (clearFramebuffer s).allocAnswers = s.allocAnswers := rfl
@[simp] theorem clearFramebuffer_writeAnswers (s : State) : (clearFramebuffer s).writeAnswers = s.writeAnswers := rfl
@[simp] theorem clearFramebuffer_cfg (s : State) : (clearFramebuffer s).cfg = s.cfg := rfl
@[simp] theorem clearFramebuffer_pending (s : State) : (clearFramebuffer s).pending = s.pending := rfl
@[simp] theorem clearFramebuffer_ok (s : State) : (clearFramebuffer s).ok = s.ok := rfl
@[simp] theorem clearFramebuffer_fresh (s : State) : (clearFramebuffer s).fresh = s.fresh := rfl

/-! ### closeTransport -/

@[simp] theorem closeTransport_fb (s : State) : (closeTransport s).fb = s.fb := rfl
@[simp] theorem closeTransport_lcs (s : State) : (closeTransport s).lcs = s.lcs := rfl
@[simp] theorem closeTransport_mode (s : State) : (closeTransport s).mode = s.mode := rfl
@[simp] theorem closeTransport_len (s : State) : (closeTransport s).len = s.len := rfl
@[simp] theorem closeTransport_cs (s : State) : (closeTransport s).cs = s.cs := rfl
@[simp] theorem closeTransport_gh (s : State) : (closeTransport s).gh = s.gh := rfl
@[simp] theorem closeTransport_ts (s : State) : (closeTransport s).ts = s.ts := rfl
@[simp] theorem closeTransport_cur (s : State) : (closeTransport s).cur = s.cur := rfl
@[simp] theorem closeTransport_acc (s : State) : (closeTransport s).acc = s.acc := rfl
@[simp] theorem closeTransport_nb (s : State) : (closeTransport s).nb = s.nb := rfl
@[simp] theorem closeTransport_stg (s : State) : (closeTransport s).stg = s.stg := rfl
@[simp] theorem closeTransport_busy (s : State) : (closeTransport s).busy = s.busy := rfl
@[simp] theorem closeTransport_guard (s : State) : (closeTransport s).guard = s.guard := rfl
@[simp] theorem closeTransport_trace (s : State) : (closeTransport s).trace = s.trace ++ [.closeCall] := rfl
@[simp] theorem closeTransport_opened (s : State) : (closeTransport s).opened = false := rfl
@[simp] theorem closeTransport_requests (s : State) : (closeTransport s).requests = s.requests := rfl
@[simp] theorem closeTransport_responses (s : State) : (closeTransport s).responses = s.responses := rfl
@[simp] theorem closeTransport_agenda (s : State) : (closeTransport s).agenda = s.agenda := rfl
@[simp] theorem closeTransport_openAnswers (s : State) : (closeTransport s).openAnswers = s.openAnswers := rfl
@[simp] theorem closeTransport_allocAnswers (s : State) : (closeTransport s).allocAnswers = s.allocAnswers := rfl
@[simp] theorem closeTransport_writeAnswers (s : State) : (closeTransport s).writeAnswers = s.writeAnswers := rfl
@[simp] theorem closeTransport_cfg (s : State) : (closeTransport s).cfg = s.cfg := rfl
@[simp] theorem closeTransport_pending (s : State) : (closeTransport s).pending = s.pending := rfl
@[simp] theorem closeTransport_ok (s : State) : (closeTransport s).ok = s.ok := rfl
@[simp] theorem closeTransport_fresh (s : State) : (closeTransport s).fresh = s.fresh := rfl

/-! ### giveUp -/

@[simp] theorem giveUp_fb (s : State) : (giveUp s).fb = Config.freeStore s.fresh := rfl
@[simp] theorem giveUp_lcs (s : State) : (giveUp s).lcs = .uninitialized := rfl
@[simp] theorem giveUp_mode (s : State) : (giveUp s).mode = s.mode := rfl
@[simp] theorem giveUp_len (s : State) : (giveUp s).len = lenDefault := rfl
@[simp] theorem giveUp_cs (s : State) : (giveUp s).cs = s.cs := rfl
@[simp] theorem giveUp_gh (s : State) : (giveUp s).gh = s.gh := rfl
@[simp] theorem giveUp_ts (s : State) : (giveUp s).ts = s.ts := rfl
@[simp] theorem giveUp_cur (s : State) : (giveUp s).cur = s.cur := rfl
@[simp] theorem giveUp_acc (s : State) : (giveUp s).acc = s.acc := rfl
@[simp] theorem giveUp_nb (s : State) : (giveUp s).nb = s.nb := rfl
@[simp] theorem giveUp_stg (s : State) : (giveUp s).stg = s.stg := rfl
@[simp] theorem giveUp_busy (s : State) : (giveUp s).busy = s.busy := rfl
@[simp] theorem giveUp_guard (s : State) : (giveUp s).guard = s.guard := rfl
@[simp] theorem giveUp_trace (s : State) : (giveUp s).trace = s.trace ++ [.closeCall] := rfl
@[simp] theorem giveUp_opened (s : State) : (giveUp s).opened = false := rfl
@[simp] theorem giveUp_requests (s : State) : (giveUp s).requests = s.requests := rfl
@[simp] theorem giveUp_responses (s : State) : (giveUp s).responses = s.responses := rfl
@[simp] theorem giveUp_agenda (s : State) : (giveUp s).agenda = s.agenda := rfl
@[simp] theorem giveUp_openAnswers (s : State) : (giveUp s).openAnswers = s.openAnswers := rfl
@[simp] theorem giveUp_allocAnswers (s : State) : (giveUp s).allocAnswers = s.allocAnswers := rfl
@[simp] theorem giveUp_writeAnswers (s : State) : (giveUp s).writeAnswers = s.writeAnswers := rfl
@[simp] theorem giveUp_cfg (s : State) : (giveUp s).cfg = s.cfg := rfl
@[simp] theorem giveUp_pending (s : State) : (giveUp s).pending = s.pending := rfl
@[simp] theorem giveUp_ok (s : State) : (giveUp s).ok = s.ok := rfl
@[simp] theorem giveUp_fresh (s : State) : (giveUp s).fresh = s.fresh + 1 := rfl

/-! ### loadAccumulator -/

@[simp] theorem loadAccumulator_fb (s : State) : (loadAccumulator s).fb = s.fb := rfl
@[simp] theorem loadAccumulator_lcs (s : State) : (loadAccumulator s).lcs = s.lcs := rfl
@[simp] theorem loadAccumulator_mode (s : State) : (loadAccumulator s).mode = s.mode := rfl
@[simp] theorem loadAccumulator_len (s : State) : (loadAccumulator s).len = s.len := rfl
@[simp] theorem loadAccumulator_cs (s : State) : (loadAccumulator s).cs = s.cs := rfl
@[simp] theorem loadAccumulator_gh (s : State) : (loadAccumulator s).gh = s.gh := rfl
@[simp] theorem loadAccumulator_ts (s : State) : (loadAccumulator s).ts = s.ts := rfl
@[simp] theorem loadAccumulator_cur (s : State) : (loadAccumulator s).cur = s.cur := rfl
@[simp] theorem loadAccumulator_acc (s : State) : (loadAccumulator s).acc = (assembleByte s.fb s.len s.cur).1 := rfl
@[simp] theorem loadAccumulator_nb (s : State) : (loadAccumulator s).nb = (assembleByte s.fb s.len s.cur).2 := rfl
@[simp] theorem loadAccumulator_stg (s : State) : (loadAccumulator s).stg = s.stg := rfl
@[simp] theorem loadAccumulator_busy (s : State) : (loadAccumulator s).busy = s.busy := rfl
@[simp] theorem loadAccumulator_guard (s : State) : (loadAccumulator s).guard = s.guard := rfl
@[simp] theorem loadAccumulator_trace (s : State) : (loadAccumulator s).trace = s.trace := rfl
@[simp] theorem loadAccumulator_opened (s : State) : (loadAccumulator s).opened = s.opened := rfl
@[simp] theorem loadAccumulator_requests (s : State) : (loadAccumulator s).requests = s.requests := rfl
@[simp] theorem loadAccumulator_responses (s : State) : (loadAccumulator s).responses = s.responses := rfl
@[simp] theorem loadAccumulator_agenda (s : State) : (loadAccumulator s).agenda = s.agenda := rfl
@[simp] theorem loadAccumulator_openAnswers (s : State) : (loadAccumulator s).openAnswers = s.openAnswers := rfl
@[simp] theorem loadAccumulator_allocAnswers (s : State) : (loadAccumulator s).allocAnswers = s.allocAnswers := rfl
@[simp] theorem loadAccumulator_writeAnswers (s : State) : (loadAccumulator s).writeAnswers = s.writeAnswers := rfl
@[simp] theorem loadAccumulator_cfg (s : State) : (loadAccumulator s).cfg = s.cfg := rfl
@[simp] theorem loadAccumulator_pending (s : State) : (loadAccumulator s).pending = s.pending := rfl
@[simp] theorem loadAccumulator_ok (s : State) : (loadAccumulator s).ok = s.ok := rfl
@[simp] theorem loadAccumulator_fresh (s : State) : (loadAccumulator s).fresh = s.fresh := rfl

/-! ### suspend -/

@[simp] theorem suspend_fb (steps : List Micro) (s : State) : (suspend steps s).fb = s.fb := rfl
@[simp] theorem suspend_lcs (steps : List Micro) (s : State) : (suspend steps s).lcs = s.lcs := rfl
@[simp] theorem suspend_mode (steps : List Micro) (s : State) : (suspend steps s).mode = s.mode := rfl
@[simp] theorem suspend_len (steps : List Micro) (s : State) : (suspend steps s).len = s.len := rfl
@[simp] theorem suspend_cs (steps : List Micro) (s : State) : (suspend steps s).cs = s.cs := rfl
@[simp] theorem suspend_gh (steps : List Micro) (s : State) : (suspend steps s).gh = s.gh := rfl
@[simp] theorem suspend_ts (steps : List Micro) (s : State) : (suspend steps s).ts = s.ts := rfl
@[simp] theorem suspend_cur (steps : List Micro) (s : State) : (suspend steps s).cur = s.cur := rfl
@[simp] theorem suspend_acc (steps : List Micro) (s : State) : (suspend steps s).acc = s.acc := rfl
@[simp] theorem suspend_nb (steps : List Micro) (s : State) : (suspend steps s).nb = s.nb := rfl
@[simp] theorem suspend_stg (steps : List Micro) (s : State) : (suspend steps s).stg = s.stg := rfl
@[simp] theorem suspend_busy (steps : List Micro) (s : State) : (suspend steps s).busy = s.busy := rfl
@[simp] theorem suspend_guard (steps : List Micro) (s : State) : (suspend steps s).guard = s.guard := rfl
@[simp] theorem suspend_trace (steps : List Micro) (s : State) : (suspend steps s).trace = s.trace := rfl
@[simp] theorem suspend_opened (steps : List Micro) (s : State) : (suspend steps s).opened = s.opened := rfl
@[simp] theorem suspend_requests (steps : List Micro) (s : State) : (suspend steps s).requests = s.requests := rfl
@[simp] theorem suspend_responses (steps : List Micro) (s : State) : (suspend steps s).responses = s.responses := rfl
@[simp] theorem suspend_agenda (steps : List Micro) (s : State) : (suspend steps s).agenda = s.agenda := rfl
@[simp] theorem suspend_openAnswers (steps : List Micro) (s : State) : (suspend steps s).openAnswers = s.openAnswers := rfl
@[simp] theorem suspend_allocAnswers (steps : List Micro) (s : State) : (suspend steps s).allocAnswers = s.allocAnswers := rfl
@[simp] theorem suspend_writeAnswers (steps : List Micro) (s : State) : (suspend steps s).writeAnswers = s.writeAnswers := rfl
@[simp] theorem suspend_cfg (steps : List Micro) (s : State) : (suspend steps s).cfg = s.cfg := rfl
@[simp] theorem suspend_pending (steps : List Micro) (s : State) : (suspend steps s).pending = steps ++ s.pending := rfl
@[simp] theorem suspend_ok (steps : List Micro) (s : State) : (suspend steps s).ok = s.ok := rfl
@[simp] theorem suspend_fresh (steps : List Micro) (s : State) : (suspend steps s).fresh = s.fresh := rfl

/-! ### writeUnit -/

@[simp] theorem writeUnit_fb (bytes : List Byte) (s : State) : (writeUnit bytes s).fb = s.fb := by
  simp only [writeUnit, emit_fb, drawWrite_fb]
@[simp] theorem writeUnit_lcs (bytes : List Byte) (s : State) : (writeUnit bytes s).lcs = s.lcs := by
  simp only [writeUnit, emit_lcs, drawWrite_lcs]
@[simp] theorem writeUnit_mode (bytes : List Byte) (s : State) : (writeUnit bytes s).mode = s.mode := by
  simp only [writeUnit, emit_mode, drawWrite_mode]
@[simp] theorem writeUnit_len (bytes : List Byte) (s : State) : (writeUnit bytes s).len = s.len := by
  simp only [writeUnit, emit_len, drawWrite_len]
@[simp] theorem writeUnit_cs (bytes : List Byte) (s : State) : (writeUnit bytes s).cs = s.cs := by
  simp only [writeUnit, emit_cs, drawWrite_cs]
@[simp] theorem writeUnit_gh (bytes : List Byte) (s : State) : (writeUnit bytes s).gh = s.gh := by
  simp only [writeUnit, emit_gh, drawWrite_gh]
@[simp] theorem writeUnit_ts (bytes : List Byte) (s : State) : (writeUnit bytes s).ts = s.ts := by
  simp only [writeUnit, emit_ts, drawWrite_ts]
@[simp] theorem writeUnit_cur (bytes : List Byte) (s : State) : (writeUnit bytes s).cur = s.cur := by
  simp only [writeUnit, emit_cur, drawWrite_cur]
@[simp] theorem writeUnit_acc (bytes : List Byte) (s : State) : (writeUnit bytes s).acc = s.acc := by
  simp only [writeUnit, emit_acc, drawWrite_acc]
@[simp] theorem writeUnit_nb (bytes : List Byte) (s : State) : (writeUnit bytes s).nb = s.nb := by
  simp only [writeUnit, emit_nb, drawWrite_nb]
@[simp] theorem writeUnit_stg (bytes : List Byte) (s : State) : (writeUnit bytes s).stg = s.stg := by
  simp only [writeUnit, emit_stg, drawWrite_stg]
@[simp] theorem writeUnit_busy (bytes : List Byte) (s : State) : (writeUnit bytes s).busy = s.busy := by
  simp only [writeUnit, emit_busy, drawWrite_busy]
@[simp] theorem writeUnit_guard (bytes : List Byte) (s : State) : (writeUnit bytes s).guard = s.guard := by
  simp only [writeUnit, emit_guard, drawWrite_guard]
@[simp] theorem writeUnit_trace (bytes : List Byte) (s : State) : (writeUnit bytes s).trace = s.trace ++ [.write bytes (drawWrite s).1] := by
  simp only [writeUnit, emit_trace, drawWrite_trace]
@[simp] theorem writeUnit_opened (bytes : List Byte) (s : State) : (writeUnit bytes s).opened = s.opened := by
  simp only [writeUnit, emit_opened, drawWrite_opened]
@[simp] theorem writeUnit_requests (bytes : List Byte) (s : State) : (writeUnit bytes s).requests = s.requests := by
  simp only [writeUnit, emit_requests, drawWrite_requests]
@[simp] theorem writeUnit_responses (bytes : List Byte) (s : State) : (writeUnit bytes s).responses = s.responses := by
  simp only [writeUnit, emit_responses, drawWrite_responses]
@[simp] theorem writeUnit_agenda (bytes : List Byte) (s : State) : (writeUnit bytes s).agenda = s.agenda := by
  simp only [writeUnit, emit_agenda, drawWrite_agenda]
@[simp] theorem writeUnit_openAnswers (bytes : List Byte) (s : State) : (writeUnit bytes s).openAnswers = s.openAnswers := by
  simp only [writeUnit, emit_openAnswers, drawWrite_openAnswers]
@[simp] theorem writeUnit_allocAnswers (bytes : List Byte) (s : State) : (writeUnit bytes s).allocAnswers = s.allocAnswers := by
  simp only [writeUnit, emit_allocAnswers, drawWrite_allocAnswers]
@[simp] theorem writeUnit_writeAnswers (bytes : List Byte) (s : State) : (writeUnit bytes s).writeAnswers = s.writeAnswers.tail := by
  simp only [writeUnit, emit_writeAnswers, drawWrite_writeAnswers]
@[simp] theorem writeUnit_cfg (bytes : List Byte) (s : State) : (writeUnit bytes s).cfg = s.cfg := by
  simp only [writeUnit, emit_cfg, drawWrite_cfg]
@[simp] theorem writeUnit_pending (bytes : List Byte) (s : State) : (writeUnit bytes s).pending = s.pending := by
  simp only [writeUnit, emit_pending, drawWrite_pending]
@[simp] theorem writeUnit_ok (bytes : List Byte) (s : State) : (writeUnit bytes s).ok = (drawWrite s).1 := rfl
@[simp] theorem writeUnit_fresh (bytes : List Byte) (s : State) : (writeUnit bytes s).fresh = (drawWrite s).2.fresh := rfl

/-! ### writeStaging -/

@[simp] theorem writeStaging_fb (s : State) : (writeStaging s).fb = s.fb := by
  simp only [writeStaging, forgetStaging_fb, writeUnit_fb]
@[simp] theorem writeStaging_lcs (s : State) : (writeStaging s).lcs = s.lcs := by
  simp only [writeStaging, forgetStaging_lcs, writeUnit_lcs]
@[simp] theorem writeStaging_mode (s : State) : (writeStaging s).mode = s.mode := by
  simp only [writeStaging, forgetStaging_mode, writeUnit_mode]
@[simp] theorem writeStaging_len (s : State) : (writeStaging s).len = s.len := by
  simp only [writeStaging, forgetStaging_len, writeUnit_len]
@[simp] theorem writeStaging_cs (s : State) : (writeStaging s).cs = s.cs := by
  simp only [writeStaging, forgetStaging_cs, writeUnit_cs]
@[simp] theorem writeStaging_gh (s : State) : (writeStaging s).gh = s.gh := by
  simp only [writeStaging, forgetStaging_gh, writeUnit_gh]
@[simp] theorem writeStaging_ts (s : State) : (writeStaging s).ts = s.ts := by
  simp only [writeStaging, forgetStaging_ts, writeUnit_ts]
@[simp] theorem writeStaging_cur (s : State) : (writeStaging s).cur = s.cur := by
  simp only [writeStaging, forgetStaging_cur, writeUnit_cur]
@[simp] theorem writeStaging_acc (s : State) : (writeStaging s).acc = s.acc := by
  simp only [writeStaging, forgetStaging_acc, writeUnit_acc]
@[simp] theorem writeStaging_nb (s : State) : (writeStaging s).nb = s.nb := by
  simp only [writeStaging, forgetStaging_nb, writeUnit_nb]
@[simp] theorem writeStaging_stg (s : State) : (writeStaging s).stg = Config.freeStaging (drawWrite s).2.fresh := by
  simp only [writeStaging, forgetStaging_stg, writeUnit_fresh]
@[simp] theorem writeStaging_busy (s : State) : (writeStaging s).busy = s.busy := by
  simp only [writeStaging, forgetStaging_busy, writeUnit_busy]
@[simp] theorem writeStaging_guard (s : State) : (writeStaging s).guard = s.guard := by
  simp only [writeStaging, forgetStaging_guard, writeUnit_guard]
@[simp] theorem writeStaging_trace (s : State) : (writeStaging s).trace = s.trace ++ [.write (memoryOrder s.stg) (drawWrite s).1] := by
  simp only [writeStaging, forgetStaging_trace, writeUnit_trace]
@[simp] theorem writeStaging_opened (s : State) : (writeStaging s).opened = s.opened := by
  simp only [writeStaging, forgetStaging_opened, writeUnit_opened]
@[simp] theorem writeStaging_requests (s : State) : (writeStaging s).requests = s.requests := by
  simp only [writeStaging, forgetStaging_requests, writeUnit_requests]
@[simp] theorem writeStaging_responses (s : State) : (writeStaging s).responses = s.responses := by
  simp only [writeStaging, forgetStaging_responses, writeUnit_responses]
@[simp] theorem writeStaging_agenda (s : State) : (writeStaging s).agenda = s.agenda := by
  simp only [writeStaging, forgetStaging_agenda, writeUnit_agenda]
@[simp] theorem writeStaging_openAnswers (s : State) : (writeStaging s).openAnswers = s.openAnswers := by
  simp only [writeStaging, forgetStaging_openAnswers, writeUnit_openAnswers]
@[simp] theorem writeStaging_allocAnswers (s : State) : (writeStaging s).allocAnswers = s.allocAnswers := by
  simp only [writeStaging, forgetStaging_allocAnswers, writeUnit_allocAnswers]
@[simp] theorem writeStaging_writeAnswers (s : State) : (writeStaging s).writeAnswers = s.writeAnswers.tail := by
  simp only [writeStaging, forgetStaging_writeAnswers, writeUnit_writeAnswers]
@[simp] theorem writeStaging_cfg (s : State) : (writeStaging s).cfg = s.cfg := by
  simp only [writeStaging, forgetStaging_cfg, writeUnit_cfg]
@[simp] theorem writeStaging_pending (s : State) : (writeStaging s).pending = s.pending := by
  simp only [writeStaging, forgetStaging_pending, writeUnit_pending]
@[simp] theorem writeStaging_ok (s : State) : (writeStaging s).ok = (drawWrite s).1 := by
  simp only [writeStaging, forgetStaging_ok, writeUnit_ok]
@[simp] theorem writeStaging_fresh (s : State) : (writeStaging s).fresh = (drawWrite s).2.fresh + 1 := by
  simp only [writeStaging, forgetStaging_fresh, writeUnit_fresh]

/-! ### sendHeaderUnit -/

@[simp] theorem sendHeaderUnit_fb (s : State) : (sendHeaderUnit s).fb = s.fb := by
  simp only [sendHeaderUnit, writeStaging_fb]
@[simp] theorem sendHeaderUnit_lcs (s : State) : (sendHeaderUnit s).lcs = s.lcs := by
  simp only [sendHeaderUnit, writeStaging_lcs]
@[simp] theorem sendHeaderUnit_mode (s : State) : (sendHeaderUnit s).mode = s.mode := by
  simp only [sendHeaderUnit, writeStaging_mode]
@[simp] theorem sendHeaderUnit_len (s : State) : (sendHeaderUnit s).len = s.len := by
  simp only [sendHeaderUnit, writeStaging_len]
@[simp] theorem sendHeaderUnit_cs (s : State) : (sendHeaderUnit s).cs = s.cs := by
  simp only [sendHeaderUnit, writeStaging_cs]
@[simp] theorem sendHeaderUnit_gh (s : State) : (sendHeaderUnit s).gh = s.gh := by
  simp only [sendHeaderUnit, writeStaging_gh]
@[simp] theorem sendHeaderUnit_ts (s : State) : (sendHeaderUnit s).ts = s.ts := by
  simp only [sendHeaderUnit, writeStaging_ts]
@[simp] theorem sendHeaderUnit_cur (s : State) : (sendHeaderUnit s).cur = 1 := rfl
@[simp] theorem sendHeaderUnit_acc (s : State) : (sendHeaderUnit s).acc = s.acc := by
  simp only [sendHeaderUnit, writeStaging_acc]
@[simp] theorem sendHeaderUnit_nb (s : State) : (sendHeaderUnit s).nb = s.nb := by
  simp only [sendHeaderUnit, writeStaging_nb]
@[simp] theorem sendHeaderUnit_stg (s : State) : (sendHeaderUnit s).stg = Config.freeStaging (drawWrite s).2.fresh := by
  simp only [sendHeaderUnit, writeStaging_stg]
@[simp] theorem sendHeaderUnit_busy (s : State) : (sendHeaderUnit s).busy = s.busy := by
  simp only [sendHeaderUnit, writeStaging_busy]
@[simp] theorem sendHeaderUnit_guard (s : State) : (sendHeaderUnit s).guard = s.guard := by
  simp only [sendHeaderUnit, writeStaging_guard]
@[simp] theorem sendHeaderUnit_trace (s : State) : (sendHeaderUnit s).trace = s.trace ++ [.write (memoryOrder s.stg) (drawWrite s).1] := by
  simp only [sendHeaderUnit, writeStaging_trace]
@[simp] theorem sendHeaderUnit_opened (s : State) : (sendHeaderUnit s).opened = s.opened := by
  simp only [sendHeaderUnit, writeStaging_opened]
@[simp] theorem sendHeaderUnit_requests (s : State) : (sendHeaderUnit s).requests = s.requests := by
  simp only [sendHeaderUnit, writeStaging_requests]
@[simp] theorem sendHeaderUnit_responses (s : State) : (sendHeaderUnit s).responses = s.responses := by
  simp only [sendHeaderUnit, writeStaging_responses]
@[simp] theorem sendHeaderUnit_agenda (s : State) : (sendHeaderUnit s).agenda = s.agenda := by
  simp only [sendHeaderUnit, writeStaging_agenda]
@[simp] theorem sendHeaderUnit_openAnswers (s : State) : (sendHeaderUnit s).openAnswers = s.openAnswers := by
  simp only [sendHeaderUnit, writeStaging_openAnswers]
@[simp] theorem sendHeaderUnit_allocAnswers (s : State) : (sendHeaderUnit s).allocAnswers = s.allocAnswers := by
  simp only [sendHeaderUnit, writeStaging_allocAnswers]
@[simp] theorem sendHeaderUnit_writeAnswers (s : State) : (sendHeaderUnit s).writeAnswers = s.writeAnswers.tail := by
  simp only [sendHeaderUnit, writeStaging_writeAnswers]
@[simp] theorem sendHeaderUnit_cfg (s : State) : (sendHeaderUnit s).cfg = s.cfg := by
  simp only [sendHeaderUnit, writeStaging_cfg]
@[simp] theorem sendHeaderUnit_pending (s : State) : (sendHeaderUnit s).pending = s.pending := by
  simp only [sendHeaderUnit, writeStaging_pending]
@[simp] theorem sendHeaderUnit_ok (s : State) : (sendHeaderUnit s).ok = (drawWrite s).1 := by
  simp only [sendHeaderUnit, writeStaging_ok]
@[simp] theorem sendHeaderUnit_fresh (s : State) : (sendHeaderUnit s).fresh = (drawWrite s).2.fresh + 1 := by
  simp only [sendHeaderUnit, writeStaging_fresh]

end Sys2Proof.Machine
end

