-- ==== Sys2Proof/Laws/Sequence.lean ====
section
/-! SUPPORT. Carrying out steps when no other agent moves: one lemma per outcome of a step, then a whole transaction. -/

namespace Sys2Proof.Machine

/-- No steps left. -/
@[simp] theorem settle_nil (n : Nat) (s : State) : settle (n + 1) [] s = s := rfl

/-- A step that goes on. -/
theorem settle_go {n : Nat} {m : Micro} {rest more : List Micro} {s t : State}
    (ha : s.agenda = []) (hm : micro m s = .go t more) :
    settle (n + 1) (m :: rest) s = settle n (more ++ rest) t := by
  simp only [settle, ha, hm]

/-- A step that ends the request's own steps. -/
theorem settle_abort {n : Nat} {m : Micro} {rest steps : List Micro} {s t : State}
    (ha : s.agenda = []) (hm : micro m s = .abort t steps) :
    settle (n + 1) (m :: rest) s = settle n steps t := by
  simp only [settle, ha, hm]

/-- A step that is not enabled. -/
theorem settle_stuck {n : Nat} {m : Micro} {rest : List Micro} {s : State}
    (ha : s.agenda = []) (hm : micro m s = .stuck) :
    settle (n + 1) (m :: rest) s = suspend (m :: rest) s := by
  simp only [settle, ha, hm]

/-- The first three steps of a transaction, on a free lock (R122 to R124). -/
def openTransaction (s : State) : State :=
  setPhase .selected (emit .selectAssert
    { setPhase .locked (emit .guardGrant (setPhase .wait (emit .guardRequest s))) with guard := .framer })

/-- The last two steps of a transaction (R126, R127). -/
def closeTransaction (s : State) : State :=
  forgetFrame { setPhase .idle (emit .guardRelease (setPhase .deselected (emit .selectDeassert s))) with guard := .free }

@[simp] theorem openTransaction_fb (s : State) : (openTransaction s).fb = s.fb := rfl
@[simp] theorem openTransaction_lcs (s : State) : (openTransaction s).lcs = s.lcs := rfl
@[simp] theorem openTransaction_mode (s : State) : (openTransaction s).mode = s.mode := rfl
@[simp] theorem openTransaction_len (s : State) : (openTransaction s).len = s.len := rfl
@[simp] theorem openTransaction_cs (s : State) : (openTransaction s).cs = true := rfl
@[simp] theorem openTransaction_gh (s : State) : (openTransaction s).gh = true := rfl
@[simp] theorem openTransaction_ts (s : State) : (openTransaction s).ts = .selected := rfl
@[simp] theorem openTransaction_cur (s : State) : (openTransaction s).cur = s.cur := rfl
@[simp] theorem openTransaction_acc (s : State) : (openTransaction s).acc = s.acc := rfl
@[simp] theorem openTransaction_nb (s : State) : (openTransaction s).nb = s.nb := rfl
@[simp] theorem openTransaction_stg (s : State) : (openTransaction s).stg = s.stg := rfl
@[simp] theorem openTransaction_busy (s : State) : (openTransaction s).busy = s.busy := rfl
@[simp] theorem openTransaction_guard (s : State) : (openTransaction s).guard = .framer := rfl
@[simp] theorem openTransaction_trace (s : State) : (openTransaction s).trace = s.trace ++ openingEvents := by
  simp [openTransaction, openingEvents]
@[simp] theorem openTransaction_opened (s : State) : (openTransaction s).opened = s.opened := rfl
@[simp] theorem openTransaction_requests (s : State) : (openTransaction s).requests = s.requests := rfl
@[simp] theorem openTransaction_responses (s : State) : (openTransaction s).responses = s.responses := rfl
@[simp] theorem openTransaction_agenda (s : State) : (openTransaction s).agenda = s.agenda := rfl
@[simp] theorem openTransaction_openAnswers (s : State) : (openTransaction s).openAnswers = s.openAnswers := rfl
@[simp] theorem openTransaction_allocAnswers (s : State) : (openTransaction s).allocAnswers = s.allocAnswers := rfl
@[simp] theorem openTransaction_writeAnswers (s : State) : (openTransaction s).writeAnswers = s.writeAnswers := rfl
@[simp] theorem openTransaction_cfg (s : State) : (openTransaction s).cfg = s.cfg := rfl
@[simp] theorem openTransaction_pending (s : State) : (openTransaction s).pending = s.pending := rfl
@[simp] theorem openTransaction_ok (s : State) : (openTransaction s).ok = s.ok := rfl
@[simp] theorem openTransaction_fresh (s : State) : (openTransaction s).fresh = s.fresh := rfl
@[simp] theorem closeTransaction_fb (s : State) : (closeTransaction s).fb = s.fb := rfl
@[simp] theorem closeTransaction_lcs (s : State) : (closeTransaction s).lcs = s.lcs := rfl
@[simp] theorem closeTransaction_mode (s : State) : (closeTransaction s).mode = s.mode := rfl
@[simp] theorem closeTransaction_len (s : State) : (closeTransaction s).len = s.len := rfl
@[simp] theorem closeTransaction_cs (s : State) : (closeTransaction s).cs = false := rfl
@[simp] theorem closeTransaction_gh (s : State) : (closeTransaction s).gh = false := rfl
@[simp] theorem closeTransaction_ts (s : State) : (closeTransaction s).ts = .idle := rfl
@[simp] theorem closeTransaction_cur (s : State) : (closeTransaction s).cur = Config.freeCursor s.fresh := rfl
@[simp] theorem closeTransaction_acc (s : State) : (closeTransaction s).acc = Config.freeAccumulator s.fresh := rfl
@[simp] theorem closeTransaction_nb (s : State) : (closeTransaction s).nb = Config.freeBitCount s.fresh := rfl
@[simp] theorem closeTransaction_stg (s : State) : (closeTransaction s).stg = s.stg := rfl
@[simp] theorem closeTransaction_busy (s : State) : (closeTransaction s).busy = s.busy := rfl
@[simp] theorem closeTransaction_guard (s : State) : (closeTransaction s).guard = .free := rfl
@[simp] theorem closeTransaction_trace (s : State) : (closeTransaction s).trace = s.trace ++ closingEvents := by
  simp [closeTransaction, closingEvents]
@[simp] theorem closeTransaction_opened (s : State) : (closeTransaction s).opened = s.opened := rfl
@[simp] theorem closeTransaction_requests (s : State) : (closeTransaction s).requests = s.requests := rfl
@[simp] theorem closeTransaction_responses (s : State) : (closeTransaction s).responses = s.responses := rfl
@[simp] theorem closeTransaction_agenda (s : State) : (closeTransaction s).agenda = s.agenda := rfl
@[simp] theorem closeTransaction_openAnswers (s : State) : (closeTransaction s).openAnswers = s.openAnswers := rfl
@[simp] theorem closeTransaction_allocAnswers (s : State) : (closeTransaction s).allocAnswers = s.allocAnswers := rfl
@[simp] theorem closeTransaction_writeAnswers (s : State) : (closeTransaction s).writeAnswers = s.writeAnswers := rfl
@[simp] theorem closeTransaction_cfg (s : State) : (closeTransaction s).cfg = s.cfg := rfl
@[simp] theorem closeTransaction_pending (s : State) : (closeTransaction s).pending = s.pending := rfl
@[simp] theorem closeTransaction_ok (s : State) : (closeTransaction s).ok = s.ok := rfl
@[simp] theorem closeTransaction_fresh (s : State) : (closeTransaction s).fresh = s.fresh + 1 := rfl

/-- Opening a transaction on a free lock takes three steps. -/
theorem settle_open {n : Nat} {rest : List Micro} {s : State} (hs : s.unhindered) :
    settle (n + 3) (.requestGuard :: .takeGrant :: .assertSelect :: rest) s = settle n rest (openTransaction s) := by
  obtain ⟨ht, hg, ha⟩ := hs
  rw [settle_go (t := setPhase .wait (emit .guardRequest s)) (more := []) ha (by simp [micro, requestGuard, ht])]
  rw [List.nil_append, settle_go
    (t := { setPhase .locked (emit .guardGrant (setPhase .wait (emit .guardRequest s))) with guard := .framer })
    (more := []) (by simp [ha]) (by simp [micro, takeGrant, hg])]
  rw [List.nil_append, settle_go (t := openTransaction s) (more := []) (by simp [ha])
    (by simp [micro, assertSelect, openTransaction])]
  rfl

/-- Closing a transaction takes two steps. -/
theorem settle_close {n : Nat} {rest : List Micro} {s : State} (ht : s.ts = .selected) (ha : s.agenda = []) :
    settle (n + 2) (.deassertSelect :: .releaseGuard :: rest) s = settle n rest (closeTransaction s) := by
  rw [settle_go (t := setPhase .deselected (emit .selectDeassert s)) (more := []) ha
    (by simp [micro, deassertSelect, ht])]
  rw [List.nil_append, settle_go (t := closeTransaction s) (more := []) (by simp [ha])
    (by simp [micro, releaseGuard, closeTransaction])]
  rfl

/-- A whole command transaction on a free lock: seven steps, whatever the transport answers (R81). -/
theorem settle_command {n : Nat} {stage : Micro} {rest : List Micro} {s : State} {w : Word} (hs : s.unhindered)
    (hstage : micro stage s = .go (stageWord w s) []) :
    settle (n + 7) (transactionSteps stage .writeStaged ++ rest) s =
      settle n rest (closeTransaction (writeStaging (openTransaction (stageWord w s)))) := by
  obtain ⟨ht, hg, ha⟩ := hs
  simp only [transactionSteps, List.cons_append, List.nil_append]
  rw [settle_go ha hstage, List.nil_append, settle_open (n := n + 3) ⟨by simp [ht], by simp [hg], by simp [ha]⟩]
  rw [settle_go (t := writeStaging (openTransaction (stageWord w s))) (more := []) (by simp [ha])
    (by simp [micro, writeStaged])]
  rw [List.nil_append, settle_close (by simp [writeStaging]) (by simp [writeStaging, ha])]

end Sys2Proof.Machine
end

