-- ==== Sys2Proof/Laws/Micro.lean ====
section
/-! SUPPORT. What a draw of an answer and one step of the framer can do, said once for any state. -/

namespace Sys2Proof.Machine

/-- A draw for `open` answers something and uses up its answer, listed or free. -/
theorem drawOpen_eq (s : State) :
    ∃ ok answers fresh, drawOpen s = (ok, { s with openAnswers := answers, fresh := fresh }) := by
  unfold drawOpen; split <;> exact ⟨_, _, _, rfl⟩

/-- A draw for the allocation answers something and uses up its answer, listed or free. -/
theorem drawAlloc_eq (s : State) :
    ∃ ok answers fresh, drawAlloc s = (ok, { s with allocAnswers := answers, fresh := fresh }) := by
  unfold drawAlloc; split
  · split <;> exact ⟨_, _, _, rfl⟩
  · exact ⟨_, _, _, rfl⟩

/-- A draw for `writeBytes` answers something and uses up its answer, listed or free. -/
theorem drawWrite_eq (s : State) :
    ∃ ok answers fresh, drawWrite s = (ok, { s with writeAnswers := answers, fresh := fresh }) := by
  unfold drawWrite; split <;> exact ⟨_, _, _, rfl⟩

/-- The answer of a write depends only on the listed answers and the count of free values taken. -/
theorem drawWrite_congr {s t : State} (hw : t.writeAnswers = s.writeAnswers) (hf : t.fresh = s.fresh) :
    (drawWrite t).1 = (drawWrite s).1 := by
  unfold drawWrite; rw [hw, hf]; cases s.writeAnswers <;> rfl

/-- `lenOf` gives a legal length for every mode (R107). -/
theorem lenOf_legal (c : Config) (mode : BitVec 8) : legalLen (lenOf c mode) := by
  unfold lenOf legalLen lenEight lenSixteen lenDefault; split_ifs <;> simp

/-- The protocol's reading of a record with one event more. -/
theorem protocolState_append (trace : List Event) (e : Event) :
    protocolState (trace ++ [e]) = protocolStep (protocolState trace) e := by
  simp [protocolState]

/-- What the first remaining step can be when the remaining steps lead to a response: the response itself, an acquisition
given back before it, or a step that has its place and from which the others lead on. -/
theorem leadsToResponse_cons {m : Micro} {rest : List Micro} {g : Stage} {l : Lifecycle}
    (h : leadsToResponse (m :: rest) (g, l) = true) :
    (∃ st b, m = .respond st b ∧ rest = [] ∧ g = .idle ∧ l.settled = true) ∨
    (∃ st b, m = .giveUp ∧ rest = [.respond st b] ∧ g = .idle ∧ (l = .uninitialized ∨ l = .configuring)) ∨
    (∃ q, afterMicro m (g, l) = some q ∧ rest ≠ [] ∧ leadsToResponse rest q = true) := by
  unfold leadsToResponse at h
  split at h <;> try (simp at h; done)
  · rename_i e1 e2
    simp at e1 e2
    obtain ⟨rfl, rfl⟩ := e1
    obtain ⟨rfl, rfl⟩ := e2
    simp at h
    exact .inl ⟨_, _, rfl, rfl, h⟩
  · rename_i e1 e2
    simp at e1 e2
    obtain ⟨rfl, rfl⟩ := e1
    obtain ⟨rfl, rfl⟩ := e2
    simp at h
    exact .inr (.inl ⟨_, _, rfl, rfl, h⟩)
  · rename_i e1 _ _
    simp at e1
    obtain ⟨rfl, rfl⟩ := e1
    split at h
    · rename_i q hq
      exact .inr (.inr ⟨q, hq, by rintro rfl; simp [leadsToResponse] at h, h⟩)
    · simp at h

/-- What is planned for a failed unit does for a transaction whose units are all written. -/
theorem leadsToResponse_sent {rest : List Micro} {n : Nat} {l : Lifecycle}
    (h : leadsToResponse rest (.failed, l) = true) (hn : wholeCount n = true) :
    leadsToResponse rest (.sent n, l) = true := by
  cases rest with
  | nil => simp [leadsToResponse] at h
  | cons m rest =>
    rcases leadsToResponse_cons h with ⟨_, _, _, _, h', _⟩ | ⟨_, _, _, _, h', _⟩ | ⟨q, hq, hr, hl⟩
    · cases h'
    · cases h'
    · cases m <;> simp [afterMicro] at hq
      obtain ⟨h1, rfl⟩ := hq
      simp [leadsToResponse, afterMicro, h1, hn, hl]

/-- What no step of the framer touches (the parameters, the host's words, the agenda, the steps put aside) or takes back
(the trace, the responses). -/
structure Kept (s t : State) : Prop where
  cfg : t.cfg = s.cfg
  requests : t.requests = s.requests
  agenda : t.agenda = s.agenda
  pending : t.pending = s.pending
  trace : s.trace <+: t.trace
  responses : s.responses <+: t.responses

theorem Kept.refl (s : State) : Kept s s := ⟨rfl, rfl, rfl, rfl, List.prefix_rfl, List.prefix_rfl⟩

theorem Kept.trans {s t u : State} (h : Kept s t) (g : Kept t u) : Kept s u :=
  ⟨g.cfg.trans h.cfg, g.requests.trans h.requests, g.agenda.trans h.agenda, g.pending.trans h.pending,
    h.trace.trans g.trace, h.responses.trans g.responses⟩

/-- The state a step of the framer leads to, if it leads to one. -/
def Progress.state? : Progress → Option State
  | .go t _ => some t
  | .abort t _ => some t
  | .stuck => none

theorem kept_emit (e : Event) (s : State) : Kept s (emit e s) :=
  ⟨rfl, rfl, rfl, rfl, List.prefix_append _ _, List.prefix_rfl⟩

theorem kept_writeUnit (bytes : List Byte) (s : State) : Kept s (writeUnit bytes s) := by
  obtain ⟨ok, answers, fresh, h⟩ := drawWrite_eq s
  simp only [writeUnit, h]
  exact ⟨rfl, rfl, rfl, rfl, List.prefix_append _ _, List.prefix_rfl⟩

theorem kept_writeStaging (s : State) : Kept s (writeStaging s) :=
  have h := kept_writeUnit (memoryOrder s.stg) s
  ⟨h.cfg, h.requests, h.agenda, h.pending, h.trace, h.responses⟩

theorem kept_sendHeaderUnit (s : State) : Kept s (sendHeaderUnit s) :=
  have h := kept_writeStaging s
  ⟨h.cfg, h.requests, h.agenda, h.pending, h.trace, h.responses⟩

theorem kept_sendAccumulator (s : State) : Kept s (sendAccumulator s) := by
  have h := kept_writeUnit [s.acc] s
  unfold sendAccumulator
  simp only
  split
  · exact ⟨h.cfg, h.requests, h.agenda, h.pending, h.trace, h.responses⟩
  · exact h

theorem kept_acquire (mode : BitVec 8) (s t : State) (h : (acquire mode s).state? = some t) : Kept s t := by
  obtain ⟨ok, answers, fresh, e⟩ := drawOpen_eq s
  unfold acquire at h
  rw [e] at h
  cases ok
  · simp only [raise, Progress.state?, Option.some.injEq] at h
    subst h
    exact ⟨rfl, rfl, rfl, rfl, List.prefix_append _ _, List.prefix_rfl⟩
  · simp only [allocate] at h
    obtain ⟨ok, answers', fresh', e'⟩ := drawAlloc_eq { emit (.openCall true)
      { s with openAnswers := answers, fresh := fresh } with opened := true, mode := mode, len := lenOf s.cfg mode }
    rw [e'] at h
    cases ok <;> simp only [raise, Progress.state?, Option.some.injEq] at h <;> subst h <;>
      exact ⟨rfl, rfl, rfl, rfl, List.prefix_append _ _, List.prefix_rfl⟩

theorem kept_sendHeader (data : BitVec 6) (s t : State) (h : (sendHeader data s).state? = some t) : Kept s t := by
  unfold sendHeader at h
  split at h
  · simp only [Progress.state?, Option.some.injEq] at h
    subst h
    have k := kept_sendHeaderUnit (stageWord (headerWord s.cfg data) s)
    exact ⟨k.cfg, k.requests, k.agenda, k.pending, k.trace, k.responses⟩
  · simp [Progress.state?] at h

theorem kept_sendByte (byte : Byte) (bits : Nat) (s t : State) (h : (sendByte byte bits s).state? = some t) :
    Kept s t := by
  unfold sendByte at h
  split at h
  · simp only [Progress.state?, Option.some.injEq] at h
    subst h
    have k := kept_sendAccumulator { s with acc := byte, nb := bits }
    exact ⟨k.cfg, k.requests, k.agenda, k.pending, k.trace, k.responses⟩
  · simp [Progress.state?] at h

/-- Every step of the framer keeps what `Kept` says. -/
theorem kept_micro (m : Micro) (s t : State) (h : (micro m s).state? = some t) : Kept s t := by
  cases m
  case acquire mode => exact kept_acquire mode s t h
  case sendHeader data => exact kept_sendHeader data s t h
  case sendByte byte bits => exact kept_sendByte byte bits s t h
  all_goals
    simp only [micro, requestGuard, takeGrant, assertSelect, writeStaged, writeHeader, writeData, deassertSelect,
      releaseGuard, checkWrite, raise] at h
    try split at h
  all_goals
    simp only [Progress.state?, Option.some.injEq, reduceCtorEq] at h
    try subst h
  all_goals first
    | exact Kept.refl s
    | exact kept_emit _ s
    | exact ⟨rfl, rfl, rfl, rfl, List.prefix_append _ _, List.prefix_rfl⟩
    | exact ⟨rfl, rfl, rfl, rfl, List.prefix_rfl, List.prefix_append _ _⟩
    | exact ⟨rfl, rfl, rfl, rfl, List.prefix_rfl, List.prefix_rfl⟩
    | exact kept_writeStaging s
    | exact kept_sendHeaderUnit s
    | (have k := kept_sendAccumulator (loadAccumulator s)
       exact ⟨k.cfg, k.requests, k.agenda, k.pending, k.trace, k.responses⟩)

end Sys2Proof.Machine
end

