-- ==== Sys2Proof/Laws/Words.lean ====
section
/-! SUPPORT. The fields of the words of 30_encoding.md: what each part of a built word reads as. -/

namespace Sys2Proof

/-- The low byte of a swapped word is the word's high byte (R56). -/
@[simp] theorem bswap16_low (w : Word) : (bswap16 w).extractLsb' 0 8 = w.extractLsb' 8 8 := by
  apply BitVec.eq_of_getLsbD_eq; intro i hi
  interval_cases i <;> simp only [bswap16, BitVec.getLsbD_append, BitVec.getLsbD_extractLsb'] <;> simp

/-- The high byte of a swapped word is the word's low byte (R56). -/
@[simp] theorem bswap16_high (w : Word) : (bswap16 w).extractLsb' 8 8 = w.extractLsb' 0 8 := by
  apply BitVec.eq_of_getLsbD_eq; intro i hi
  interval_cases i <;> simp only [bswap16, BitVec.getLsbD_append, BitVec.getLsbD_extractLsb'] <;> simp

/-- A word is its high byte followed by its low byte. -/
theorem word_eq_bytes (w : Word) : (w.extractLsb' 8 8 ++ w.extractLsb' 0 8 : Word) = w := by
  apply BitVec.eq_of_getLsbD_eq; intro i hi
  interval_cases i <;> simp only [BitVec.getLsbD_append, BitVec.getLsbD_extractLsb'] <;> simp

/-- The bytes of a swapped word in memory order: the structured word's high byte first (R57). -/
@[simp] theorem memoryOrder_bswap16 (w : Word) :
    memoryOrder (bswap16 w) = [w.extractLsb' 8 8, w.extractLsb' 0 8] := by simp [memoryOrder]

/-- Bits [15:13] of a command word (R51). -/
@[simp] theorem encodeCommand_class (c : Config) (opcode : BitVec 8) :
    (encodeCommand c opcode).extractLsb' 13 3 = c.cmdClass := by
  apply BitVec.eq_of_getLsbD_eq; intro i hi
  interval_cases i <;> simp only [encodeCommand, BitVec.getLsbD_append, BitVec.getLsbD_extractLsb'] <;> simp

/-- Bits [12:5] of a command word (R51). -/
@[simp] theorem encodeCommand_opcode (c : Config) (opcode : BitVec 8) :
    (encodeCommand c opcode).extractLsb' 5 8 = opcode := by
  apply BitVec.eq_of_getLsbD_eq; intro i hi
  interval_cases i <;> simp only [encodeCommand, BitVec.getLsbD_append, BitVec.getLsbD_extractLsb'] <;> simp

/-- Bits [4:0] of a command word (R54). -/
@[simp] theorem encodeCommand_pad (c : Config) (opcode : BitVec 8) :
    (encodeCommand c opcode).extractLsb' 0 5 = cmdPad := by
  apply BitVec.eq_of_getLsbD_eq; intro i hi
  interval_cases i <;> simp only [encodeCommand, BitVec.getLsbD_append, BitVec.getLsbD_extractLsb'] <;> simp

/-- Bits [15:13] of a frame header (R52). -/
@[simp] theorem headerWord_class (c : Config) (data : BitVec 6) :
    (headerWord c data).extractLsb' 13 3 = c.wrClass := by
  apply BitVec.eq_of_getLsbD_eq; intro i hi
  interval_cases i <;> simp only [headerWord, BitVec.getLsbD_append, BitVec.getLsbD_extractLsb'] <;> simp

/-- Bits [12:6] of a frame header (R91). -/
@[simp] theorem headerWord_addr (c : Config) (data : BitVec 6) :
    (headerWord c data).extractLsb' 6 7 = startAddr := by
  apply BitVec.eq_of_getLsbD_eq; intro i hi
  interval_cases i <;> simp only [headerWord, BitVec.getLsbD_append, BitVec.getLsbD_extractLsb'] <;> simp

/-- Bits [5:0] of a frame header (R52). -/
@[simp] theorem headerWord_data (c : Config) (data : BitVec 6) :
    (headerWord c data).extractLsb' 0 6 = data := by
  apply BitVec.eq_of_getLsbD_eq; intro i hi
  interval_cases i <;> simp only [headerWord, BitVec.getLsbD_append, BitVec.getLsbD_extractLsb'] <;> simp

/-- The operation code of a request word (R60). -/
@[simp] theorem requestWord_op (op : BitVec 4) (operands : BitVec 12) :
    (requestWord op operands).extractLsb' 12 4 = op := by
  apply BitVec.eq_of_getLsbD_eq; intro i hi
  interval_cases i <;> simp only [requestWord, BitVec.getLsbD_append, BitVec.getLsbD_extractLsb'] <;> simp

/-- The 8-bit operand in bits [7:0] of a request word (R60: mode, duty). -/
@[simp] theorem requestWord_low8 (op : BitVec 4) (v : BitVec 8) :
    (requestWord op (0#4 ++ v)).extractLsb' 0 8 = v := by
  apply BitVec.eq_of_getLsbD_eq; intro i hi
  interval_cases i <;> simp only [requestWord, BitVec.getLsbD_append, BitVec.getLsbD_extractLsb'] <;> simp

/-- The cell address in bits [11:4] of a request word (R60). -/
@[simp] theorem requestWord_address (op : BitVec 4) (a : BitVec 8) (b : BitVec 3) (v : BitVec 1) :
    (requestWord op (a ++ b ++ v)).extractLsb' 4 8 = a := by
  apply BitVec.eq_of_getLsbD_eq; intro i hi
  interval_cases i <;> simp only [requestWord, BitVec.getLsbD_append, BitVec.getLsbD_extractLsb'] <;> simp

/-- The bit index in bits [3:1] of a request word (R60). -/
@[simp] theorem requestWord_bitIndex (op : BitVec 4) (a : BitVec 8) (b : BitVec 3) (v : BitVec 1) :
    (requestWord op (a ++ b ++ v)).extractLsb' 1 3 = b := by
  apply BitVec.eq_of_getLsbD_eq; intro i hi
  interval_cases i <;> simp only [requestWord, BitVec.getLsbD_append, BitVec.getLsbD_extractLsb'] <;> simp

/-- The value in bit 0 of a request word (R60). -/
@[simp] theorem requestWord_value (op : BitVec 4) (a : BitVec 8) (b : BitVec 3) (v : Bool) :
    (requestWord op (a ++ b ++ BitVec.ofBool v)).getLsbD 0 = v := by
  simp only [requestWord, BitVec.getLsbD_append, BitVec.getLsbD_ofBool]; simp

/-- The two data bits of DATB_LAST (R95). -/
@[simp] theorem paddedByte_data (data : BitVec 2) : (paddedByte data).extractLsb' 6 2 = data := by
  apply BitVec.eq_of_getLsbD_eq; intro i hi
  interval_cases i <;> simp only [paddedByte, BitVec.getLsbD_append, BitVec.getLsbD_extractLsb'] <;> simp

/-- The six padding bits of DATB_LAST (R95). -/
@[simp] theorem paddedByte_pad (data : BitVec 2) : (paddedByte data).extractLsb' 0 6 = 0#6 := by
  apply BitVec.eq_of_getLsbD_eq; intro i hi
  interval_cases i <;> simp only [paddedByte, BitVec.getLsbD_append, BitVec.getLsbD_extractLsb'] <;> simp

/-- The duty in the low bits of a PWM-duty opcode, where `OPC_PWM_BASE` has its low four bits zero (R55). -/
theorem pwmOpcode_duty (c : Config) (duty : BitVec 4) (h : c.opcPwmBase.extractLsb' 0 4 = 0#4) :
    (pwmOpcode c duty).extractLsb' 0 4 = duty := by
  have low : ∀ i < 4, c.opcPwmBase.getLsbD i = false := by
    intro i hi
    have := congrArg (·.getLsbD i) h
    simpa [BitVec.getLsbD_extractLsb', hi] using this
  apply BitVec.eq_of_getLsbD_eq; intro i hi
  simp only [pwmOpcode, BitVec.getLsbD_extractLsb', BitVec.getLsbD_or, BitVec.getLsbD_setWidth]
  simp [hi, low i hi]; omega

/-- The high bits of a PWM-duty opcode are those of `OPC_PWM_BASE` (R55). -/
theorem pwmOpcode_high (c : Config) (duty : BitVec 4) :
    (pwmOpcode c duty).extractLsb' 4 4 = c.opcPwmBase.extractLsb' 4 4 := by
  apply BitVec.eq_of_getLsbD_eq; intro i hi
  interval_cases i <;>
    simp only [pwmOpcode, BitVec.getLsbD_extractLsb', BitVec.getLsbD_or, BitVec.getLsbD_setWidth] <;> simp

/-- The masked duty in the opcode is the duty with AND 0x0F (R55, R82). -/
theorem pwmOpcode_maskDuty (c : Config) (duty : BitVec 8) :
    pwmOpcode c (Machine.maskDuty duty) = c.opcPwmBase ||| (duty &&& 0x0F#8) := by
  apply BitVec.eq_of_getLsbD_eq; intro i hi
  interval_cases i <;> simp only [pwmOpcode, Machine.maskDuty, BitVec.getLsbD_extractLsb', BitVec.getLsbD_or,
    BitVec.getLsbD_setWidth, BitVec.getLsbD_and] <;> simp

end Sys2Proof
end

