-- ==== Sys2Proof/Laws/Command.lean ====
section
/-! SUPPORT. The command rows of the table are one operation with different opcodes, and what one CMD comes to (R81). -/

namespace Sys2Proof.Machine

/-- The duty's place in a PWM-duty opcode, written as an extension by zeros (R55). -/
theorem pwmOpcode_eq (c : Config) (duty : BitVec 4) : pwmOpcode c duty = c.opcPwmBase ||| (0#4 ++ duty) := by
  have h : ∀ d : BitVec 4, d.setWidth 8 = 0#4 ++ d := by decide
  rw [pwmOpcode, h]

/-- Every command row is the CMD of its opcode. -/
theorem exec_commandRow {s : State} {i : Instr} {opcode : BitVec 8} (h : commandOpcode s.cfg i = some opcode) :
    exec i s = command opcode s := by
  cases i <;> simp only [commandOpcode, Option.some.injEq, reduceCtorEq] at h <;> subst h
  case cmdPwmDuty duty => rw [← pwmOpcode_eq]; rfl
  all_goals rfl

/-- One CMD on a free lock. -/
theorem run_command {s : State} (hs : s.unhindered) (opcode : BitVec 8) :
    run (commandSteps opcode) s =
      closeTransaction (writeStaging (openTransaction (stageWord (encodeCommand s.cfg opcode) s))) := by
  have h := settle_command (n := 185) (rest := []) hs (stage := .stageCommand opcode)
    (w := encodeCommand s.cfg opcode) rfl
  rw [List.append_nil] at h
  unfold run fuelFor commandSteps
  rw [hs.2.2]
  exact h

/-- The events of one CMD, whatever its write is answered (R81). -/
theorem command_trace (opcode : BitVec 8) (s : State) :
    (closeTransaction (writeStaging (openTransaction (stageWord (encodeCommand s.cfg opcode) s)))).trace =
      s.trace ++ openingEvents ++ [.write (commandUnit s.cfg opcode) (drawWrite s).1] ++ closingEvents := by
  have h := drawWrite_congr (s := s) (t := openTransaction (stageWord (encodeCommand s.cfg opcode) s))
    (by simp) (by simp)
  simp [h, commandUnit, wireUnit]

/-- What one CMD leaves as it was (R81). -/
theorem command_same {s : State} (hs : s.unhindered) (opcode : BitVec 8) :
    SameButSent s (closeTransaction (writeStaging (openTransaction (stageWord (encodeCommand s.cfg opcode) s)))) := by
  obtain ⟨ht, hg, ha⟩ := hs
  constructor <;> simp [ht, hg]

end Sys2Proof.Machine
end

