-- ==== Sys2Proof/Laws/Frame.lean ====
section
/-! SUPPORT. The frame's loop against its bit string (R96): the bytes the loop assembles are the wire bytes of R101's
positions, and what the loop does when every unit is written, or one fails. -/

namespace Sys2Proof.Machine

/-- Bit `j` of eight bits put into a byte, counted from the top. -/
theorem byteOfBits_getMsbD (f : Nat → Bool) (j : Nat) (h : j < 8) : (byteOfBits f).getMsbD j = f j := by
  rw [BitVec.getMsbD_eq_getLsbD]
  interval_cases j <;> simp only [byteOfBits, BitVec.getLsbD_append, BitVec.getLsbD_ofBool] <;> simp

/-- A byte is known by its bits from the top. -/
theorem byte_ext {x y : Byte} (h : ∀ j < 8, x.getMsbD j = y.getMsbD j) : x = y :=
  BitVec.eq_of_getMsbD_eq fun j hj => h j hj

/-- A data bit of the stream is a Framebuffer bit (R101). -/
theorem streamBit_data (c : Config) (fb : Store) (len a b : Nat) (ha : a < len) (hb : b < 4) :
    streamBit c fb len (10 + 4 * a + b) = fbBit fb a b := by
  unfold streamBit
  rw [if_neg (by omega), if_neg (by omega), if_pos (by omega)]
  congr 1 <;> omega

/-- Past the data the stream is padding (R96). -/
theorem streamBit_pad (c : Config) (fb : Store) (len p : Nat) (h : 10 + 4 * len ≤ p) : streamBit c fb len p = false := by
  unfold streamBit
  rw [if_neg (by omega), if_neg (by omega), if_neg (by omega)]

/-- A bit of a wire byte, from the top, is a bit of the stream. -/
theorem streamByte_getMsbD (c : Config) (fb : Store) (len k j : Nat) (h : j < 8) :
    (streamByte c fb len k).getMsbD j = streamBit c fb len (8 * k + j) := byteOfBits_getMsbD _ _ h

/-- The `Write` events of a transaction are its units, in order (R121). -/
theorem writtenUnits_transaction (units : List (List Byte)) : writtenUnits (transactionEvents units) = units := by
  have h : writtenUnits (units.map fun u => .write u true) = units := by
    induction units with
    | nil => rfl
    | cons u us ih => simpa only [writtenUnits, List.map_cons, List.filterMap_cons, List.cons.injEq, true_and] using ih
  unfold writtenUnits at *
  simp only [transactionEvents, List.filterMap_append, h]
  simp [openingEvents, closingEvents]

/-- The bytes of a frame's units are the wire bytes in order (R101). -/
theorem frameUnits_flatten (c : Config) (fb : Store) (len : Nat) :
    (frameUnits c fb len).flatten = (List.range (2 + len / 2)).map (streamByte c fb len) := by
  have h (ks : List Nat) : (ks.map fun k => [streamByte c fb len (k + 2)]).flatten =
      ks.map fun k => streamByte c fb len (k + 2) := by
    induction ks with
    | nil => rfl
    | cons k ks ih => simpa using ih
  rw [frameUnits, dataUnits, List.flatten_cons, h, Nat.add_comm, List.range_succ_eq_map, List.range_succ_eq_map]
  simp [Function.comp_def]

/-- A bit on the wire is the bit of R96's string at its position. -/
theorem wireBit_frame (c : Config) (fb : Store) (len p : Nat) (hp : p < 8 * (2 + len / 2)) :
    wireBit (frameUnits c fb len).flatten p = streamBit c fb len p := by
  have h : p / 8 < 2 + len / 2 := by omega
  have hj : p % 8 < 8 := Nat.mod_lt p (by omega)
  simp [wireBit, frameUnits_flatten, h, streamByte_getMsbD _ _ _ _ _ hj, Nat.div_add_mod]

/-- The byte the loop assembles at cursor `2k + 1`, when all eight positions are filled, is wire byte `k + 2` (R93, R101). -/
theorem assembleByte_full (c : Config) (fb : Store) (len k : Nat) (h : 2 * k + 3 < len) :
    assembleByte fb len (2 * k + 1) = (streamByte c fb len (k + 2), 8) := by
  unfold assembleByte
  rw [if_pos (by omega), if_pos (by omega)]
  congr 1
  apply byte_ext
  intro j hj
  rw [streamByte_getMsbD _ _ _ _ _ hj, BitVec.getMsbD_eq_getLsbD]
  have e (a b : Nat) (ha : a < len) (hb : b < 4) (hp : 10 + 4 * a + b = 8 * (k + 2) + j) :
      streamBit c fb len (8 * (k + 2) + j) = (cellAt fb a).getLsbD (3 - b) := by
    rw [← hp, streamBit_data c fb len a b ha hb]; simp [fbBit, cellBit, BitVec.getMsbD_eq_getLsbD, hb]
  interval_cases j
  · rw [e (2 * k + 1) 2 (by omega) (by omega) (by omega)]
    simp only [leftoverBits, firstBits, BitVec.getLsbD_or, BitVec.getLsbD_append, BitVec.getLsbD_extractLsb']; simp
  · rw [e (2 * k + 1) 3 (by omega) (by omega) (by omega)]
    simp only [leftoverBits, firstBits, BitVec.getLsbD_or, BitVec.getLsbD_append, BitVec.getLsbD_extractLsb']; simp
  · rw [e (2 * k + 2) 0 (by omega) (by omega) (by omega)]
    simp only [leftoverBits, firstBits, BitVec.getLsbD_or, BitVec.getLsbD_append, BitVec.getLsbD_extractLsb']; simp
  · rw [e (2 * k + 2) 1 (by omega) (by omega) (by omega)]
    simp only [leftoverBits, firstBits, BitVec.getLsbD_or, BitVec.getLsbD_append, BitVec.getLsbD_extractLsb']; simp
  · rw [e (2 * k + 2) 2 (by omega) (by omega) (by omega)]
    simp only [leftoverBits, firstBits, BitVec.getLsbD_or, BitVec.getLsbD_append, BitVec.getLsbD_extractLsb']; simp
  · rw [e (2 * k + 2) 3 (by omega) (by omega) (by omega)]
    simp only [leftoverBits, firstBits, BitVec.getLsbD_or, BitVec.getLsbD_append, BitVec.getLsbD_extractLsb']; simp
  · rw [e (2 * k + 3) 0 (by omega) (by omega) (by omega)]
    simp only [leftoverBits, firstBits, BitVec.getLsbD_or, BitVec.getLsbD_append, BitVec.getLsbD_extractLsb']; simp
  · rw [e (2 * k + 3) 1 (by omega) (by omega) (by omega)]
    simp only [leftoverBits, firstBits, BitVec.getLsbD_or, BitVec.getLsbD_append, BitVec.getLsbD_extractLsb']; simp

/-- The last byte of a frame of even length: two data bits and six zeros (R95). -/
theorem assembleByte_last (c : Config) (fb : Store) (len k : Nat) (h : 2 * k + 2 = len) :
    assembleByte fb len (2 * k + 1) = (streamByte c fb len (k + 2), 2) := by
  unfold assembleByte
  rw [if_neg (by omega)]
  congr 1
  apply byte_ext
  intro j hj
  rw [streamByte_getMsbD _ _ _ _ _ hj, BitVec.getMsbD_eq_getLsbD]
  have e (b : Nat) (hb : b < 4) (hp : 10 + 4 * (2 * k + 1) + b = 8 * (k + 2) + j) :
      streamBit c fb len (8 * (k + 2) + j) = (cellAt fb (2 * k + 1)).getLsbD (3 - b) := by
    rw [← hp, streamBit_data c fb len _ b (by omega) hb]; simp [fbBit, cellBit, BitVec.getMsbD_eq_getLsbD, hb]
  rcases Nat.lt_or_ge j 2 with h2 | h2
  · interval_cases j
    · rw [e 2 (by omega) (by omega)]
      simp only [leftoverBits, BitVec.getLsbD_append, BitVec.getLsbD_extractLsb']; simp
    · rw [e 3 (by omega) (by omega)]
      simp only [leftoverBits, BitVec.getLsbD_append, BitVec.getLsbD_extractLsb']; simp
  · rw [streamBit_pad _ _ _ _ (by omega)]
    interval_cases j <;>
      simp only [leftoverBits, BitVec.getLsbD_append, BitVec.getLsbD_extractLsb'] <;> simp

/-- The header unit is wire bytes 0 and 1 (R91, R92, R101). -/
theorem header_unit (c : Config) (fb : Store) (len : Nat) (h : 2 ≤ len) :
    wireUnit (headerWord c (headerData fb)) = [streamByte c fb len 0, streamByte c fb len 1] := by
  unfold wireUnit
  have e (p a b : Nat) (ha : a < 2) (hb : b < 4) (hp : 10 + 4 * a + b = p) :
      streamBit c fb len p = (cellAt fb a).getLsbD (3 - b) := by
    rw [← hp, streamBit_data c fb len a b (by omega) hb]; simp [fbBit, cellBit, BitVec.getMsbD_eq_getLsbD, hb]
  simp only [List.cons.injEq, and_true]
  constructor
  · apply byte_ext
    intro j hj
    rw [streamByte_getMsbD _ _ _ _ _ hj, BitVec.getMsbD_eq_getLsbD]
    interval_cases j <;> simp only [headerWord, BitVec.getLsbD_append, BitVec.getLsbD_extractLsb', streamBit] <;>
      simp [startAddr, BitVec.getMsbD_eq_getLsbD]
  · apply byte_ext
    intro j hj
    rw [streamByte_getMsbD _ _ _ _ _ hj, BitVec.getMsbD_eq_getLsbD]
    interval_cases j
    · simp only [headerWord, BitVec.getLsbD_append, BitVec.getLsbD_extractLsb', streamBit]; simp [startAddr]
    · simp only [headerWord, BitVec.getLsbD_append, BitVec.getLsbD_extractLsb', streamBit]; simp [startAddr]
    · rw [e _ 0 0 (by omega) (by omega) (by omega)]
      simp only [headerWord, headerData, firstBits, BitVec.getLsbD_append, BitVec.getLsbD_extractLsb']; simp
    · rw [e _ 0 1 (by omega) (by omega) (by omega)]
      simp only [headerWord, headerData, firstBits, BitVec.getLsbD_append, BitVec.getLsbD_extractLsb']; simp
    · rw [e _ 0 2 (by omega) (by omega) (by omega)]
      simp only [headerWord, headerData, firstBits, BitVec.getLsbD_append, BitVec.getLsbD_extractLsb']; simp
    · rw [e _ 0 3 (by omega) (by omega) (by omega)]
      simp only [headerWord, headerData, firstBits, BitVec.getLsbD_append, BitVec.getLsbD_extractLsb']; simp
    · rw [e _ 1 0 (by omega) (by omega) (by omega)]
      simp only [headerWord, headerData, firstBits, BitVec.getLsbD_append, BitVec.getLsbD_extractLsb']; simp
    · rw [e _ 1 1 (by omega) (by omega) (by omega)]
      simp only [headerWord, headerData, firstBits, BitVec.getLsbD_append, BitVec.getLsbD_extractLsb']; simp

/-- The writes of the wire bytes from `k + 2` on, the first one taken off. -/
theorem writes_next (c : Config) (fb : Store) (len k n : Nat) :
    [Event.write [streamByte c fb len (k + 2)] true] ++
        (List.range n).map (fun j => Event.write [streamByte c fb len (k + 1 + 2 + j)] true) =
      (List.range (n + 1)).map fun j => Event.write [streamByte c fb len (k + 2 + j)] true := by
  rw [List.range_succ_eq_map, List.map_cons, List.map_map, List.singleton_append, List.cons.injEq]
  refine ⟨rfl, List.map_congr_left fun j _ => ?_⟩
  rw [show k + 1 + 2 + j = k + 2 + (j + 1) by omega]; rfl

/-- One pass of the data loop, with the assembled byte and the answer named (R93 to R95). -/
theorem micro_writeData {s : State} {b : Byte} {nb : Nat} (ht : s.ts = .selected)
    (hb : assembleByte s.fb s.len s.cur = (b, nb)) :
    micro .writeData s = .go
      { s with
        trace := s.trace ++ [.write [b] (drawWrite s).1]
        writeAnswers := (drawWrite s).2.writeAnswers
        fresh := (drawWrite s).2.fresh
        ok := (drawWrite s).1
        acc := b
        nb := nb
        cur := if (drawWrite s).1 && nb == 8 then s.cur + 2 else s.cur }
      (if (drawWrite s).1 && nb == 8 then [.writeData] else []) := by
  have hd : drawWrite (loadAccumulator s) =
      ((drawWrite s).1, loadAccumulator { s with
        writeAnswers := (drawWrite s).2.writeAnswers, fresh := (drawWrite s).2.fresh }) := by
    unfold drawWrite loadAccumulator; cases s.writeAnswers <;> rfl
  simp only [micro, writeData, ht, if_true, sendAccumulator, writeUnit, hd]
  simp only [loadAccumulator, hb, emit]
  by_cases h : ((drawWrite s).1 && nb == 8) = true
  · simp [h]
  · simp [h]

/-- The data loop when every unit is written: one pass for each of the `r + 1` wire bytes from the cursor's on, and then
the loop is over (R93 to R95). -/
theorem settle_dataLoop (r : Nat) : ∀ (k : Nat) (s : State) (rest : List Bool), s.ts = .selected → s.agenda = [] →
    s.cur = 2 * k + 1 → s.len = 2 * (k + 1 + r) → s.writeAnswers = List.replicate (r + 1) true ++ rest →
    ∃ t, (∀ n ms, settle (n + (r + 1)) (.writeData :: ms) s = settle n ms t) ∧
      t = { s with
        trace := s.trace ++ (List.range (r + 1)).map fun j => .write [streamByte s.cfg s.fb s.len (k + 2 + j)] true
        writeAnswers := rest, ok := true, cur := t.cur, acc := t.acc, nb := t.nb } := by
  induction r with
  | zero =>
    intro k s rest ht ha hc hl hw
    have hb := assembleByte_last s.cfg s.fb s.len k (by omega)
    rw [← hc] at hb
    have hm := micro_writeData ht hb
    simp only [drawWrite, hw] at hm
    refine ⟨_, fun n ms => by rw [settle_go ha hm]; rfl, ?_⟩
    simp
  | succ r ih =>
    intro k s rest ht ha hc hl hw
    have hb := assembleByte_full s.cfg s.fb s.len k (by omega)
    rw [← hc] at hb
    have hm := micro_writeData ht hb
    simp only [drawWrite, hw, List.replicate_succ (n := r + 1), List.cons_append] at hm
    obtain ⟨t, hs, he⟩ := ih (k + 1) { s with
        trace := s.trace ++ [.write [streamByte s.cfg s.fb s.len (k + 2)] true]
        writeAnswers := List.replicate (r + 1) true ++ rest
        ok := true, acc := streamByte s.cfg s.fb s.len (k + 2), nb := 8, cur := s.cur + 2 } rest ht ha
      (by simp [hc]; omega) (by simp [hl]; omega) rfl
    refine ⟨t, fun n ms => ?_, ?_⟩
    · rw [← hs n ms, show n + (r + 1 + 1) = (n + (r + 1)) + 1 by omega, settle_go ha hm]; rfl
    · rw [he]
      simp only [State.mk.injEq, true_and, and_true, List.append_assoc]
      congr 1
      exact writes_next ..

/-- The data loop when unit `j` from the cursor's on fails: the units before it are written, it is tried, and the loop is
over (R100). -/
theorem settle_dataLoop_fails (j : Nat) : ∀ (r k : Nat) (s : State) (rest : List Bool), j ≤ r → s.ts = .selected →
    s.agenda = [] → s.cur = 2 * k + 1 → s.len = 2 * (k + 1 + r) →
    s.writeAnswers = List.replicate j true ++ false :: rest →
    ∃ t, (∀ n ms, settle (n + (j + 1)) (.writeData :: ms) s = settle n ms t) ∧
      t = { s with
        trace := s.trace ++ ((List.range j).map fun i => .write [streamByte s.cfg s.fb s.len (k + 2 + i)] true) ++
          [.write [streamByte s.cfg s.fb s.len (k + 2 + j)] false]
        writeAnswers := rest, ok := false, cur := t.cur, acc := t.acc, nb := t.nb } := by
  induction j with
  | zero =>
    intro r k s rest hj ht ha hc hl hw
    obtain ⟨nb, hb⟩ : ∃ nb, assembleByte s.fb s.len s.cur = (streamByte s.cfg s.fb s.len (k + 2), nb) := by
      rw [hc]
      rcases Nat.eq_zero_or_pos r with h | h
      · exact ⟨_, assembleByte_last s.cfg s.fb s.len k (by omega)⟩
      · exact ⟨_, assembleByte_full s.cfg s.fb s.len k (by omega)⟩
    have hm := micro_writeData ht hb
    simp only [drawWrite, hw, List.replicate_zero, List.nil_append] at hm
    refine ⟨_, fun n ms => by rw [settle_go ha hm]; rfl, ?_⟩
    simp
  | succ j ih =>
    intro r k s rest hj ht ha hc hl hw
    have hb := assembleByte_full s.cfg s.fb s.len k (by omega)
    rw [← hc] at hb
    have hm := micro_writeData ht hb
    simp only [drawWrite, hw, List.replicate_succ, List.cons_append] at hm
    obtain ⟨t, hs, he⟩ := ih (r - 1) (k + 1) { s with
        trace := s.trace ++ [.write [streamByte s.cfg s.fb s.len (k + 2)] true]
        writeAnswers := List.replicate j true ++ false :: rest
        ok := true, acc := streamByte s.cfg s.fb s.len (k + 2), nb := 8, cur := s.cur + 2 } rest (by omega) ht ha
      (by simp [hc]; omega) (by simp [hl]; omega) rfl
    refine ⟨t, fun n ms => ?_, ?_⟩
    · rw [← hs n ms, show n + (j + 1 + 1) = (n + (j + 1)) + 1 by omega, settle_go ha hm]; rfl
    · rw [he]
      simp only [State.mk.injEq, true_and, and_true]
      rw [show k + 1 + 2 + j = k + 2 + (j + 1) by omega]
      congr 1
      rw [List.append_assoc]
      congr 1
      exact writes_next ..

/-- A frame transaction up to its header unit, on a free lock: five steps (R90 to R92). -/
theorem settle_header {n : Nat} {ms : List Micro} {s : State} (hs : s.unhindered) :
    settle (n + 5) (frameSteps ++ ms) s =
      let h := sendHeaderUnit (openTransaction (stageWord (headerWord s.cfg (headerData s.fb)) s))
      settle n ((if h.ok then [.writeData] else []) ++ (.deassertSelect :: .releaseGuard :: ms)) h := by
  obtain ⟨ht, hg, ha⟩ := hs
  simp only [frameSteps, transactionSteps, List.cons_append, List.nil_append]
  rw [settle_go (t := stageWord (headerWord s.cfg (headerData s.fb)) s) (more := []) ha rfl, List.nil_append,
    settle_open (n := n + 1) ⟨by simp [ht], by simp [hg], by simp [ha]⟩]
  rw [settle_go (by simp [ha]) (by simp only [micro, writeHeader, openTransaction_ts, if_true]; rfl)]

/-- The state after the header unit, when its write is answered `ok` (R92). -/
theorem headerUnit_eq {s : State} {ok : Bool} {answers : List Bool} (hl : 2 ≤ s.len)
    (hw : s.writeAnswers = ok :: answers) :
    sendHeaderUnit (openTransaction (stageWord (headerWord s.cfg (headerData s.fb)) s)) =
      { s with
        trace := s.trace ++ openingEvents ++
          [.write [streamByte s.cfg s.fb s.len 0, streamByte s.cfg s.fb s.len 1] ok]
        writeAnswers := answers, ok := ok, cs := true, gh := true, ts := .selected, guard := .framer, cur := 1
        stg := Config.freeStaging s.fresh, fresh := s.fresh + 1 } := by
  have hu := header_unit s.cfg s.fb s.len hl
  unfold wireUnit at hu
  simp [sendHeaderUnit, writeStaging, forgetStaging, writeUnit, drawWrite, hw, openTransaction, emit, setPhase, csOf,
    ghOf, stageWord, openingEvents, hu]

/-- A whole frame when every unit is written: one transaction of the units of R96's bit string, in `7 + LEN / 2` steps. -/
theorem settle_frame {s : State} {answers : List Bool} (hs : s.unhindered) (hl : legalLen s.len)
    (hw : s.writeAnswers = List.replicate (1 + s.len / 2) true ++ answers) :
    ∃ t, (∀ n ms, settle (n + (7 + s.len / 2)) (frameSteps ++ ms) s = settle n ms t) ∧
      t = { s with
        trace := s.trace ++ transactionEvents (frameUnits s.cfg s.fb s.len)
        writeAnswers := answers, ok := true, cs := false, gh := false, ts := .idle, guard := .free
        cur := t.cur, acc := t.acc, nb := t.nb, stg := t.stg, fresh := t.fresh } := by
  obtain ⟨r, hr⟩ : ∃ r, s.len = 2 * (0 + 1 + r) := by rcases hl with h | h <;> [exact ⟨31, h⟩; exact ⟨47, h⟩]
  have hd : s.len / 2 = r + 1 := by omega
  rw [hd, Nat.add_comm 1, List.replicate_succ (n := r + 1), List.cons_append] at hw
  have he := headerUnit_eq (by omega) hw
  obtain ⟨u, hu, hue⟩ := settle_dataLoop r 0
    (sendHeaderUnit (openTransaction (stageWord (headerWord s.cfg (headerData s.fb)) s))) answers
    (by rw [he]) (by rw [he]; exact hs.2.2) (by rw [he]) (by rw [he]; exact hr) (by rw [he])
  rw [he] at hue
  refine ⟨closeTransaction u, fun n ms => ?_, ?_⟩
  · rw [hd, show n + (7 + (r + 1)) = n + 2 + (r + 1) + 5 by omega, settle_header hs]
    simp only [show (sendHeaderUnit (openTransaction
      (stageWord (headerWord s.cfg (headerData s.fb)) s))).ok = true by rw [he], if_true, List.cons_append,
      List.nil_append, hu]
    exact settle_close (by rw [hue]) (by rw [hue]; exact hs.2.2)
  · rw [hue]
    simp [closeTransaction, forgetFrame, emit, setPhase, csOf, ghOf, transactionEvents, closingEvents, frameUnits,
      dataUnits, hd, Function.comp_def, Nat.add_comm]

/-- A frame whose unit `k` fails: the units before it, it, and nothing more; then the transaction is closed (R100). -/
theorem settle_frame_fails {s : State} {k : Nat} {answers : List Bool} (hs : s.unhindered) (hl : legalLen s.len)
    (hk : k < 1 + s.len / 2) (hw : s.writeAnswers = List.replicate k true ++ false :: answers) :
    ∃ t, (∀ n ms, settle (n + (7 + k)) (frameSteps ++ ms) s = settle n ms t) ∧
      t = { s with
        trace := s.trace ++
          failedEvents ((frameUnits s.cfg s.fb s.len).take k) (((frameUnits s.cfg s.fb s.len)[k]?).getD [])
        writeAnswers := answers, ok := false, cs := false, gh := false, ts := .idle, guard := .free
        cur := t.cur, acc := t.acc, nb := t.nb, stg := t.stg, fresh := t.fresh } := by
  obtain ⟨r, hr⟩ : ∃ r, s.len = 2 * (0 + 1 + r) := by rcases hl with h | h <;> [exact ⟨31, h⟩; exact ⟨47, h⟩]
  have hd : s.len / 2 = r + 1 := by omega
  cases k with
  | zero =>
    have he := headerUnit_eq (by omega) hw
    refine ⟨closeTransaction
      (sendHeaderUnit (openTransaction (stageWord (headerWord s.cfg (headerData s.fb)) s))), fun n ms => ?_, ?_⟩
    · rw [show n + (7 + 0) = n + 2 + 5 by omega, settle_header hs]
      simp only [show (sendHeaderUnit (openTransaction
        (stageWord (headerWord s.cfg (headerData s.fb)) s))).ok = false by rw [he], Bool.false_eq_true, if_false,
        List.nil_append]
      exact settle_close (by rw [he]) (by rw [he]; exact hs.2.2)
    · rw [he]
      simp [closeTransaction, forgetFrame, emit, setPhase, csOf, ghOf, failedEvents, closingEvents, frameUnits]
  | succ j =>
    rw [List.replicate_succ, List.cons_append] at hw
    have he := headerUnit_eq (by omega) hw
    obtain ⟨u, hu, hue⟩ := settle_dataLoop_fails j r 0
      (sendHeaderUnit (openTransaction (stageWord (headerWord s.cfg (headerData s.fb)) s))) answers (by omega)
      (by rw [he]) (by rw [he]; exact hs.2.2) (by rw [he]) (by rw [he]; exact hr) (by rw [he])
    rw [he] at hue
    refine ⟨closeTransaction u, fun n ms => ?_, ?_⟩
    · rw [show n + (7 + (j + 1)) = n + 2 + (j + 1) + 5 by omega, settle_header hs]
      simp only [show (sendHeaderUnit (openTransaction
        (stageWord (headerWord s.cfg (headerData s.fb)) s))).ok = true by rw [he], if_true, List.cons_append,
        List.nil_append, hu]
      exact settle_close (by rw [hue]) (by rw [hue]; exact hs.2.2)
    · rw [hue]
      have hj : j < r + 1 := by omega
      simp [closeTransaction, forgetFrame, emit, setPhase, csOf, ghOf, failedEvents, closingEvents, frameUnits,
        dataUnits, hd, Function.comp_def, Nat.add_comm, hj, ← List.map_take, List.take_range, Nat.min_eq_left hj.le]

end Sys2Proof.Machine
end

