-- ==== Sys2Proof/Laws/Framebuffer.lean ====
section
/-! SUPPORT. Reading the Framebuffer after it is written: one bit (R70), or the first cells cleared (R72). -/

namespace Sys2Proof.Machine

/-- A bit of a cell after one bit of it is set. -/
theorem cellBit_setCellBit (cell : Cell) (b b' : Nat) (v : Bool) (hb : b ≤ 3) :
    cellBit (setCellBit cell b v) b' = if b' = b then v else cellBit cell b' := by
  unfold cellBit setCellBit
  rcases Nat.lt_or_ge b' 4 with h | h
  · interval_cases b <;> interval_cases b' <;> cases v <;> simp [BitVec.getMsbD_eq_getLsbD]
  · have hne : b' ≠ b := by omega
    simp only [hne, if_false]
    rw [BitVec.getMsbD_of_ge _ _ h, BitVec.getMsbD_of_ge _ _ h]

/-- A cell of the store after a cell is written. -/
theorem cellAt_setIfInBounds (fb : Store) (a a' : Nat) (cell : Cell) :
    cellAt (fb.setIfInBounds a cell) a' = if a' = a ∧ a < physCells then cell else cellAt fb a' := by
  unfold cellAt
  rw [Vector.getElem?_setIfInBounds]
  by_cases h : a = a'
  · subst h
    by_cases hb : a < physCells
    · simp [hb]
    · simp [hb]
  · rw [if_neg h, if_neg (by intro h'; exact h h'.1.symm)]

/-- `FB[a'][b']` after `FB[a][b] <- v` (R70). -/
theorem fbBit_setFbBit (fb : Store) (a b : Nat) (v : Bool) (a' b' : Nat) (ha : a < physCells) (hb : b ≤ 3) :
    fbBit (setFbBit fb a b v) a' b' = if a' = a ∧ b' = b then v else fbBit fb a' b' := by
  unfold fbBit setFbBit
  rw [cellAt_setIfInBounds]
  by_cases h : a' = a
  · subst h; simp [ha, cellBit_setCellBit _ _ _ _ hb]
  · simp [h]

/-- A cell of the store after the first `n` cells are cleared (R72). -/
theorem cellAt_clearCells (n : Nat) (fb : Store) (a : Nat) :
    cellAt (clearCells n fb) a = if a < n then 0#4 else cellAt fb a := by
  induction n with
  | zero => simp [clearCells]
  | succ k ih =>
    rw [clearCells, cellAt_setIfInBounds, ih]
    by_cases hk : a = k
    · subst hk
      by_cases hp : a < physCells
      · simp [hp]
      · have hn : cellAt fb a = 0#4 := by
          unfold cellAt; rw [Vector.getElem?_eq_none (by omega)]; rfl
        simp [hp, hn]
    · by_cases hl : a < k
      · simp [hk, hl, Nat.lt_succ_of_lt hl]
      · simp [hk, hl, show ¬ a < k + 1 by omega]

/-- `FB[a][b]` after the first `n` cells are cleared (R72). -/
theorem fbBit_clearCells (n : Nat) (fb : Store) (a b : Nat) :
    fbBit (clearCells n fb) a b = if a < n then false else fbBit fb a b := by
  unfold fbBit
  rw [cellAt_clearCells]
  split
  · simp [cellBit, BitVec.getMsbD_eq_getLsbD]
  · rfl

end Sys2Proof.Machine
end

