-- ==== Sys2Proof/Laws/Fuel.lean ====
section
/-! SUPPORT. A request never runs out of fuel (log 19): a bound on the steps of the framer still to come, which every step
lowers, so that carrying out steps with more fuel comes to the same state. -/

namespace Sys2Proof.Machine

/-- A bound on the steps of the framer one planned step can come to, whatever the state. -/
def Micro.weight : Micro → Nat
  | .acquire _ => 3
  | .checkWrite => 3
  | .writeHeader => 52
  | .writeData => 51
  | .enterConfiguring => 1
  | .stageCommand _ => 1
  | .stageCommonsMode => 1
  | .stageHeader => 1
  | .requestGuard => 1
  | .takeGrant => 1
  | .assertSelect => 1
  | .writeStaged => 1
  | .sendHeader _ => 1
  | .sendByte _ _ => 1
  | .deassertSelect => 1
  | .releaseGuard => 1
  | .clearStore => 1
  | .enterActive => 1
  | .giveUp => 1
  | .respond _ _ => 1

/-- The same for planned steps. -/
def weights (steps : List Micro) : Nat := (steps.map Micro.weight).sum

@[simp] theorem weights_nil : weights [] = 0 := rfl
@[simp] theorem weights_cons (m : Micro) (rest : List Micro) : weights (m :: rest) = m.weight + weights rest := rfl

/-- What the first planned step can come to in this state: the data loop has a pass for every two cells from the cursor. -/
def headWeight (m : Micro) (s : State) : Nat := if m = .writeData then 1 + (50 - s.cur / 2) else m.weight

/-- A bound on the steps of the framer still to come. -/
def stepsLeft : List Micro → State → Nat
  | [], _ => 0
  | m :: rest, s => headWeight m s + weights rest

theorem headWeight_le (m : Micro) (s : State) : headWeight m s ≤ m.weight := by
  unfold headWeight; split
  · subst_vars; simp only [Micro.weight]; omega
  · exact Nat.le_refl _

theorem stepsLeft_le (steps : List Micro) (s : State) : stepsLeft steps s ≤ weights steps := by
  cases steps with
  | nil => exact Nat.le_refl _
  | cons m rest => simpa [stepsLeft] using headWeight_le m s

/-- A full byte has its eight positions filled only while the cell after next exists (R94). -/
theorem assembleByte_eight (fb : Store) (len i : Nat) (h : (assembleByte fb len i).2 = 8) : i + 2 < len := by
  unfold assembleByte at h
  dsimp only at h
  split at h
  · split at h
    · assumption
    · simp at h
  · simp at h

/-- What a step leads to has fewer steps to come, and a legal length. -/
def Progress.lowers (bound : Nat) (rest : List Micro) : Progress → Prop
  | .go t more => stepsLeft (more ++ rest) t < bound ∧ legalLen t.len
  | .abort t steps => stepsLeft steps t < bound ∧ legalLen t.len
  | .stuck => True

theorem lowers_go {bound : Nat} {rest : List Micro} {t : State} (hl : legalLen t.len) (hb : weights rest < bound) :
    (Progress.go t []).lowers bound rest := ⟨(stepsLeft_le rest t).trans_lt hb, hl⟩

theorem lowers_acquire (mode : BitVec 8) (rest : List Micro) (s : State) (hl : legalLen s.len) :
    (acquire mode s).lowers (3 + weights rest) rest := by
  obtain ⟨ok, answers, fresh, e⟩ := drawOpen_eq s
  unfold acquire
  rw [e]
  cases ok
  · exact ⟨by simp [stepsLeft, headWeight, Micro.weight]; omega, hl⟩
  · obtain ⟨ok, answers', fresh', e'⟩ := drawAlloc_eq { emit (.openCall true)
      { s with openAnswers := answers, fresh := fresh } with opened := true, mode := mode, len := lenOf s.cfg mode }
    simp only [allocate]
    rw [show (drawAlloc { emit (.openCall true)
      { s with openAnswers := answers, fresh := fresh } with
        opened := true, mode := mode, len := lenOf s.cfg mode }) = _ from e']
    cases ok
    · exact ⟨by simp [stepsLeft, headWeight, Micro.weight]; omega, lenOf_legal _ _⟩
    · exact lowers_go (lenOf_legal _ _) (by omega)

/-- Every step of the framer lowers the bound. -/
theorem lowers_micro (m : Micro) (rest : List Micro) (s : State) (hl : legalLen s.len) :
    (micro m s).lowers (stepsLeft (m :: rest) s) rest := by
  cases m
  case acquire mode => exact lowers_acquire mode rest s hl
  case checkWrite =>
    simp only [micro, checkWrite]
    split
    · exact lowers_go hl (by simp [stepsLeft, headWeight, Micro.weight])
    · refine ⟨?_, hl⟩
      split <;> simp [stepsLeft, headWeight, Micro.weight] <;> omega
  case writeHeader =>
    simp only [micro, writeHeader]
    split
    · split
      · exact ⟨by simp [stepsLeft, headWeight, Micro.weight], by simpa using hl⟩
      · exact lowers_go (by simpa using hl) (by simp [stepsLeft, headWeight, Micro.weight])
    · trivial
  case writeData =>
    by_cases ht : s.ts = .selected
    · rw [micro_writeData ht (b := (assembleByte s.fb s.len s.cur).1) (nb := (assembleByte s.fb s.len s.cur).2) rfl]
      by_cases h : ((drawWrite s).1 && (assembleByte s.fb s.len s.cur).2 == 8) = true
      · have h8 : (assembleByte s.fb s.len s.cur).2 = 8 := by simp at h; exact h.2
        have hc := assembleByte_eight _ _ _ h8
        simp only [h, if_true]
        refine ⟨?_, hl⟩
        simp only [stepsLeft, headWeight, List.cons_append, List.nil_append, if_true]
        rcases hl with hl | hl <;> omega
      · simp only [h, if_false, Bool.false_eq_true]
        exact lowers_go hl (by simp [stepsLeft, headWeight])
    · simp only [micro, writeData, ht, if_false]; trivial
  case giveUp => exact lowers_go (.inr rfl) (by simp [stepsLeft, headWeight, Micro.weight])
  case sendByte byte bits =>
    simp only [micro, sendByte]
    split
    · refine lowers_go ?_ (by simp [stepsLeft, headWeight, Micro.weight])
      unfold sendAccumulator; dsimp only; split <;> simpa using hl
    · trivial
  all_goals
    simp only [micro, requestGuard, takeGrant, assertSelect, writeStaged, sendHeader, deassertSelect, releaseGuard]
    try split
  all_goals first
    | trivial
    | exact lowers_go (by simpa using hl) (by simp [stepsLeft, headWeight, Micro.weight])

/-- With fuel for the steps to come and the turns of the agenda, more fuel comes to the same state. -/
theorem settle_fuel : ∀ (n : Nat) (steps : List Micro) (s : State), legalLen s.len →
    stepsLeft steps s + s.agenda.length < n → settle (n + 1) steps s = settle n steps s
  | 0, _, _, _, h => by omega
  | _ + 1, [], _, _, _ => rfl
  | n + 1, m :: rest, s, hl, h => by
    have go (s' : State) (hl' : legalLen s'.len) (hs : stepsLeft (m :: rest) s' + s'.agenda.length ≤ n) :
        (match micro m s' with
          | .go t more => settle (n + 1) (more ++ rest) t
          | .abort t steps => settle (n + 1) steps t
          | .stuck => suspend (m :: rest) s') =
        (match micro m s' with
          | .go t more => settle n (more ++ rest) t
          | .abort t steps => settle n steps t
          | .stuck => suspend (m :: rest) s') := by
      have hlow := lowers_micro m rest s' hl'
      have hk := kept_micro m s'
      cases hm : micro m s' with
      | go t more =>
        rw [hm] at hlow hk
        exact settle_fuel n _ t hlow.2 (by have := hlow.1; rw [(hk t rfl).agenda]; omega)
      | abort t steps =>
        rw [hm] at hlow hk
        exact settle_fuel n _ t hlow.2 (by have := hlow.1; rw [(hk t rfl).agenda]; omega)
      | stuck => rfl
    have hpos : 0 < stepsLeft (m :: rest) s := by
      cases m <;> simp [stepsLeft, headWeight, Micro.weight]
    cases ha : s.agenda with
    | nil =>
      rw [ha] at h
      rw [settle, settle]
      simp only [ha]
      exact go s hl (by rw [ha]; simpa using Nat.lt_succ_iff.mp h)
    | cons turn turns =>
      rw [ha, List.length_cons] at h
      have hleft (g : Guard) : stepsLeft (m :: rest) { s with agenda := turns, guard := g } = stepsLeft (m :: rest) s := by
        simp [stepsLeft, headWeight]
      cases turn with
      | framer =>
        rw [settle, settle]
        simp only [ha]
        have g := go { s with agenda := turns } hl (by
          show stepsLeft (m :: rest) { s with agenda := turns } + turns.length ≤ n
          have := hleft s.guard
          omega)
        cases hm : micro m { s with agenda := turns } with
        | go t more => simpa only [hm] using g
        | abort t steps => simpa only [hm] using g
        | stuck => exact settle_fuel n (m :: rest) { s with agenda := turns } hl (by
            have := hleft s.guard
            show stepsLeft (m :: rest) { s with agenda := turns } + turns.length < n
            omega)
      | otherTakes =>
        rw [settle, settle]
        simp only [ha, otherTakes]
        have h1 := hleft .other
        have h2 := hleft s.guard
        split
        · exact settle_fuel n (m :: rest) { s with agenda := turns, guard := .other } hl (by
            show stepsLeft (m :: rest) { s with agenda := turns, guard := .other } + turns.length < n
            omega)
        · exact settle_fuel n (m :: rest) { s with agenda := turns } hl (by
            show stepsLeft (m :: rest) { s with agenda := turns } + turns.length < n
            omega)
      | otherReleases =>
        rw [settle, settle]
        simp only [ha, otherReleases]
        have h1 := hleft .free
        have h2 := hleft s.guard
        split
        · exact settle_fuel n (m :: rest) { s with agenda := turns, guard := .free } hl (by
            show stepsLeft (m :: rest) { s with agenda := turns, guard := .free } + turns.length < n
            omega)
        · exact settle_fuel n (m :: rest) { s with agenda := turns } hl (by
            show stepsLeft (m :: rest) { s with agenda := turns } + turns.length < n
            omega)
      | pause => simp only [settle, ha]
      | reset => simp only [settle, ha]

/-- The same for any two amounts of fuel. -/
theorem settle_fuel_eq {n k : Nat} {steps : List Micro} {s : State} (hl : legalLen s.len)
    (h : stepsLeft steps s + s.agenda.length < n) : settle (n + k) steps s = settle n steps s := by
  induction k with
  | zero => rfl
  | succ k ih => rw [← Nat.add_assoc, settle_fuel _ _ _ hl (by omega), ih]

/-- The steps of an `INIT` are fewer than the fuel (log 19). -/
theorem weights_initSteps (c : Config) (mode : BitVec 8) : weights (initSteps c mode) < 192 := by
  simp [initSteps, bringUpSteps, bringUpCommand, frameSteps, transactionSteps, Micro.weight]

end Sys2Proof.Machine
end

