-- ==== Sys2Proof/Laws/PerInstr.lean ====
section
/-! SUPPORT. Statements made per instruction. Space: an instruction's word belongs to the request port exactly when the
instruction is a request (R60, R62, R86), one lemma per constructor. -/

namespace Sys2Proof.Laws.Space

/-- The instruction is encoded as a request word exactly when it is a request. -/
def Statement (i : Instr) : Prop := ∀ c : Config, i.isRequest = true ↔ ∃ w, encode c i = .request w

theorem init (a0 : BitVec 8) : Statement (.init a0) := fun _ => ⟨fun _ => ⟨_, rfl⟩, fun _ => rfl⟩
theorem close : Statement .close := fun _ => ⟨fun _ => ⟨_, rfl⟩, fun _ => rfl⟩
theorem setCell (a0 : BitVec 8) (a1 : BitVec 3) (a2 : Bool) : Statement (.setCell a0 a1 a2) := fun _ => ⟨fun _ => ⟨_, rfl⟩, fun _ => rfl⟩
theorem getCell (a0 : BitVec 8) (a1 : BitVec 3) : Statement (.getCell a0 a1) := fun _ => ⟨fun _ => ⟨_, rfl⟩, fun _ => rfl⟩
theorem clear : Statement .clear := fun _ => ⟨fun _ => ⟨_, rfl⟩, fun _ => rfl⟩
theorem transmitFrame : Statement .transmitFrame := fun _ => ⟨fun _ => ⟨_, rfl⟩, fun _ => rfl⟩
theorem setBrightness (a0 : BitVec 8) : Statement (.setBrightness a0) := fun _ => ⟨fun _ => ⟨_, rfl⟩, fun _ => rfl⟩
theorem reserved0 : Statement .reserved0 := fun _ => ⟨fun _ => ⟨_, rfl⟩, fun _ => rfl⟩
theorem reserved8 : Statement .reserved8 := fun _ => ⟨fun _ => ⟨_, rfl⟩, fun _ => rfl⟩
theorem reserved9 : Statement .reserved9 := fun _ => ⟨fun _ => ⟨_, rfl⟩, fun _ => rfl⟩
theorem reservedA : Statement .reservedA := fun _ => ⟨fun _ => ⟨_, rfl⟩, fun _ => rfl⟩
theorem reservedB : Statement .reservedB := fun _ => ⟨fun _ => ⟨_, rfl⟩, fun _ => rfl⟩
theorem reservedC : Statement .reservedC := fun _ => ⟨fun _ => ⟨_, rfl⟩, fun _ => rfl⟩
theorem reservedD : Statement .reservedD := fun _ => ⟨fun _ => ⟨_, rfl⟩, fun _ => rfl⟩
theorem reservedE : Statement .reservedE := fun _ => ⟨fun _ => ⟨_, rfl⟩, fun _ => rfl⟩
theorem reservedF : Statement .reservedF := fun _ => ⟨fun _ => ⟨_, rfl⟩, fun _ => rfl⟩
theorem cmdw (a0 : BitVec 8) : Statement (.cmdw a0) := fun _ => ⟨fun h => (nomatch h), fun ⟨_, h⟩ => (nomatch h)⟩
theorem cmdSysDis : Statement .cmdSysDis := fun _ => ⟨fun h => (nomatch h), fun ⟨_, h⟩ => (nomatch h)⟩
theorem cmdComs8N : Statement .cmdComs8N := fun _ => ⟨fun h => (nomatch h), fun ⟨_, h⟩ => (nomatch h)⟩
theorem cmdComs8P : Statement .cmdComs8P := fun _ => ⟨fun h => (nomatch h), fun ⟨_, h⟩ => (nomatch h)⟩
theorem cmdComs16N : Statement .cmdComs16N := fun _ => ⟨fun h => (nomatch h), fun ⟨_, h⟩ => (nomatch h)⟩
theorem cmdComs16P : Statement .cmdComs16P := fun _ => ⟨fun h => (nomatch h), fun ⟨_, h⟩ => (nomatch h)⟩
theorem cmdMaster : Statement .cmdMaster := fun _ => ⟨fun h => (nomatch h), fun ⟨_, h⟩ => (nomatch h)⟩
theorem cmdRcClk : Statement .cmdRcClk := fun _ => ⟨fun h => (nomatch h), fun ⟨_, h⟩ => (nomatch h)⟩
theorem cmdSysEn : Statement .cmdSysEn := fun _ => ⟨fun h => (nomatch h), fun ⟨_, h⟩ => (nomatch h)⟩
theorem cmdLedOn : Statement .cmdLedOn := fun _ => ⟨fun h => (nomatch h), fun ⟨_, h⟩ => (nomatch h)⟩
theorem cmdBlinkOff : Statement .cmdBlinkOff := fun _ => ⟨fun h => (nomatch h), fun ⟨_, h⟩ => (nomatch h)⟩
theorem cmdPwmDuty (a0 : BitVec 4) : Statement (.cmdPwmDuty a0) := fun _ => ⟨fun h => (nomatch h), fun ⟨_, h⟩ => (nomatch h)⟩
theorem hdrw (a0 : BitVec 6) : Statement (.hdrw a0) := fun _ => ⟨fun h => (nomatch h), fun ⟨_, h⟩ => (nomatch h)⟩
theorem datb (a0 : Byte) : Statement (.datb a0) := fun _ => ⟨fun h => (nomatch h), fun ⟨_, h⟩ => (nomatch h)⟩
theorem datbLast (a0 : BitVec 2) : Statement (.datbLast a0) := fun _ => ⟨fun h => (nomatch h), fun ⟨_, h⟩ => (nomatch h)⟩

end Sys2Proof.Laws.Space
end

