-- ==== Sys2Proof/Tests/Slice0.lean ====
section
/-! SUPPORT. Tests: every constructor's decoding on a word written out from 30_encoding.md, the ill-formed terms, a few of
the spec's test vectors (95_test_vectors.md), and one witness for the hypotheses of every statement. Wire words are
written with the default parameter values the opcode table is written with. -/

namespace Sys2Proof.Machine.Tests

/-! ### Small states -/

def testConfig : Config := Config.defaults 0b0101 0

/-- `Active`, length 96, every Framebuffer bit 0, the transport opened once. -/
def active : State :=
  { State.reset with cfg := testConfig, lcs := .active, opened := true, trace := [.openCall true] }

/-- The same with length 64. -/
def active64 : State := { active with len := 64 }

/-- After reset, with the parameters filled in. -/
def fresh : State := { State.reset with cfg := testConfig }

/-- In the middle of a transaction. -/
def selected : State := { active with ts := .selected, cs := true, gh := true, guard := .framer }

/-- A field of the next state. -/
def field {α : Type} (f : State → α) : Host.Outcome State Fault Refusal → Option α
  | .next t => some (f t)
  | .fault _ => none
  | .refused _ => none

/-- The `Write` events of the next state, bytes only. -/
def written (o : Host.Outcome State Fault Refusal) : Option (List (List Byte)) :=
  field (fun t => t.trace.filterMap fun e => match e with | .write bytes _ => some bytes | _ => none) o

/-- What a decoder answered, as plain data. -/
def read (r : Except Reject Instr) : Option Instr :=
  match r with
  | .ok i => some i
  | .error _ => none

/-- `w` as a 16-bit unit, decoded. -/
def wire (w : Word) : Option Instr := read (decode testConfig (.unit16 w))

/-! ### Decoding: one word for every constructor -/

theorem test_decode_init : decodeRequest 0b0001_0000_00101000 = .init 0x28 := by decide
theorem test_decode_close : decodeRequest 0b0010_000000000000 = .close := by decide
theorem test_decode_setCell : decodeRequest 0b0011_00111111_011_1 = .setCell 63 3 true := by decide
theorem test_decode_getCell : decodeRequest 0b0100_01011111_010_0 = .getCell 95 2 := by decide
theorem test_decode_clear : decodeRequest 0b0101_000000000000 = .clear := by decide
theorem test_decode_transmitFrame : decodeRequest 0b0110_000000000000 = .transmitFrame := by decide
theorem test_decode_setBrightness : decodeRequest 0b0111_0000_00010000 = .setBrightness 16 := by decide
theorem test_decode_reserved0 : decodeRequest 0b0000_111111111111 = .reserved0 := by decide
theorem test_decode_reserved8 : decodeRequest 0b1000_000000000000 = .reserved8 := by decide
theorem test_decode_reserved9 : decodeRequest 0b1001_101010111100 = .reserved9 := by decide
theorem test_decode_reservedA : decodeRequest 0b1010_000000000000 = .reservedA := by decide
theorem test_decode_reservedB : decodeRequest 0b1011_000000000000 = .reservedB := by decide
theorem test_decode_reservedC : decodeRequest 0b1100_000000000000 = .reservedC := by decide
theorem test_decode_reservedD : decodeRequest 0b1101_000000000000 = .reservedD := by decide
theorem test_decode_reservedE : decodeRequest 0b1110_000000000000 = .reservedE := by decide
theorem test_decode_reservedF : decodeRequest 0b1111_111111111111 = .reservedF := by decide
theorem test_decode_cmdw : wire 0b100_11111111_00000 = some (.cmdw 0xFF) := by decide
theorem test_decode_cmdSysDis : wire 0b100_00000000_00000 = some .cmdSysDis := by decide
theorem test_decode_cmdComs8N : wire 0b100_00100000_00000 = some .cmdComs8N := by decide
theorem test_decode_cmdComs8P : wire 0b100_00101000_00000 = some .cmdComs8P := by decide
theorem test_decode_cmdComs16N : wire 0b100_00100100_00000 = some .cmdComs16N := by decide
theorem test_decode_cmdComs16P : wire 0b100_00101100_00000 = some .cmdComs16P := by decide
theorem test_decode_cmdMaster : wire 0b100_00010100_00000 = some .cmdMaster := by decide
theorem test_decode_cmdRcClk : wire 0b100_00011000_00000 = some .cmdRcClk := by decide
theorem test_decode_cmdSysEn : wire 0b100_00000001_00000 = some .cmdSysEn := by decide
theorem test_decode_cmdLedOn : wire 0b100_00000011_00000 = some .cmdLedOn := by decide
theorem test_decode_cmdBlinkOff : wire 0b100_00001000_00000 = some .cmdBlinkOff := by decide
theorem test_decode_cmdPwmDuty : wire 0b100_10101101_00000 = some (.cmdPwmDuty 0b1101) := by decide
theorem test_decode_hdrw : wire 0b101_0000000_101100 = some (.hdrw 0b101100) := by decide
theorem test_decode_datb : decodeUnit8 0b11111111 = .datb 0xFF := by decide
theorem test_decode_datbLast : decodeUnit8 0b11_000000 = .datbLast 0b11 := by decide

/-- A foreign class, a command word with padding, a header with a start address: rejected (R64, R54, R91). -/
theorem test_decode_rejects :
    (wire 0b110_00000000_00000, wire 0b100_00000000_00001, wire 0b101_0000001_000000) = (none, none, none) := by decide

/-- A 16-bit table word is read as the most specific row that claims it; others as request words (log 1). -/
theorem test_table_words :
    [decodeTableWord 16 0x6000, decodeTableWord 16 0x8020, decodeTableWord 16 0x8FFF, decodeTableWord 16 0xA02C,
      decodeTableWord 8 0xC0, decodeTableWord 8 0xC1, decodeTableWord 24 0] =
    [some .transmitFrame, some .cmdSysEn, some .reserved8, some (.hdrw 0x2C), some (.datbLast 3), some (.datb 0xC1),
      none] := by decide

/-- The words of T20 read as request words at the port: reserved (R62, R86, T80). -/
theorem test_port_words : (decodeRequest 0x8000, decodeRequest 0x9000, decodeRequest 0xA02C) =
    (.reserved8, .reserved9, .reservedA) := by decide

/-! ### WellFormed refuses the ill-formed terms -/

/-- A CMDW whose opcode belongs to a named row, or to PWM duty 5. -/
theorem test_illformed_cmdw :
    ((Instr.cmdw 0x00).wellFormed testConfig, (Instr.cmdw 0xA5).wellFormed testConfig,
      (Instr.cmdw 0x77).wellFormed testConfig) = (false, false, true) := by decide

/-- A data byte of the form of the last one. -/
theorem test_illformed_datb :
    ((Instr.datb 0x40).wellFormed testConfig, (Instr.datb 0x41).wellFormed testConfig) = (false, true) := by decide

/-! ### The spec's vectors -/

/-- T1, T4, T13: the written bit, and all bits 0 after CLEAR. -/
theorem test_setCell : field (fun t => (fbBit t.fb 63 3, fbBit t.fb 63 2, t.responses))
    (exec (.setCell 63 3 true) active64) = some (true, false, [0x00]) := by decide +kernel

theorem test_setCell_silent : field (fun t => (t.fb == active64.fb, t.responses))
    (exec (.setCell 64 0 true) active64) = some (true, [0x00]) := by decide +kernel

/-- T7, T9. -/
theorem test_getCell_silent : field (fun t => t.responses) (exec (.getCell 0 4)
    { active64 with fb := Vector.replicate physCells 0xF#4 }) = some [0x00] := by decide +kernel

theorem test_getCell : field (fun t => t.responses) (exec (.getCell 63 3)
    { active64 with fb := Vector.replicate physCells 0x1#4 }) = some [0x01] := by decide +kernel

/-- T13: all four bit indices, and no cell beyond the length. -/
theorem test_clear : field (fun t => (cellAt t.fb 0, cellAt t.fb 63, cellAt t.fb 64)) (exec .clear
    { active64 with fb := Vector.replicate physCells 0xF#4 }) = some (0x0, 0x0, 0xF) := by decide +kernel

/-- T15, T24: `BAD_STATE` outside `Active`. -/
theorem test_badState : field (fun t => (t.responses, t.trace)) (exec (.setBrightness 5) fresh) =
    some ([0x40], []) := by decide +kernel

/-- T20: system-disable. -/
theorem test_cmdSysDis : written (exec .cmdSysDis { active with writeAnswers := [true] }) =
    some [[0x80, 0x00]] := by decide +kernel

/-- T20: opcode 0xFF. -/
theorem test_cmdw : written (exec (.cmdw 0xFF) { active with writeAnswers := [true] }) =
    some [[0x9F, 0xE0]] := by decide +kernel

/-- T22: a duty above 15 is masked. -/
theorem test_setBrightness : written (exec (.setBrightness 0xF5) { active with writeAnswers := [true] }) =
    some [[0x94, 0xA0]] := by decide +kernel

/-- S5: the header scenario, inside a transaction. -/
theorem test_hdrw : written (exec (.hdrw 0b101100) { selected with writeAnswers := [true] }) =
    some [[0xA0, 0x2C]] := by decide +kernel

/-- T42: all ones, length 64. -/
theorem test_transmitFrame_ones : written (exec .transmitFrame
      { active64 with fb := Vector.replicate physCells 0xF#4, writeAnswers := List.replicate 33 true }) =
    some ([0xA0, 0x3F] :: List.replicate 31 [0xFF] ++ [[0xC0]]) := by decide +kernel

/-- T41: the blank frame, length 96. -/
theorem test_transmitFrame_blank : written (exec .transmitFrame
      { active with writeAnswers := List.replicate 49 true }) =
    some ([0xA0, 0x00] :: List.replicate 48 [0x00]) := by decide +kernel

/-- P1: the eight commands of `INIT` in mode 8-cell-PMOS with duty 5, then the blank frame; `LEN` 64. -/
theorem test_init : (field (fun t => (t.len, t.responses, t.lcs)) (exec (.init 0x28)
      { fresh with openAnswers := [true], allocAnswers := [true], writeAnswers := List.replicate 41 true }),
    written (exec (.init 0x28)
      { fresh with openAnswers := [true], allocAnswers := [true], writeAnswers := List.replicate 41 true })) =
    (some (64, [0x00], .active),
      some ([[0x80, 0x00], [0x85, 0x00], [0x82, 0x80], [0x83, 0x00], [0x80, 0x20], [0x80, 0x60], [0x81, 0x00],
        [0x94, 0xA0], [0xA0, 0x00]] ++ List.replicate 32 [0x00])) := by decide +kernel

/-- S8: the second CLOSE adds no event. -/
theorem test_close_twice : field (fun t => field (fun u => (u.trace, u.responses, u.lcs)) (exec .close t))
    (exec .close active) = some (some ([.openCall true, .closeCall], [0x00, 0x00], .closed)) := by decide +kernel

/-- T80: a reserved request word at the port. -/
theorem test_step_reserved : field (fun t => (t.responses, t.busy, t.requests))
    (step { fresh with requests := [0x8000, 0x6000] }) = some ([0x50], false, [0x6000]) := by decide +kernel

/-- R155: a reset in mid-request is refused, and stops. -/
theorem test_reset_busy : field (fun t => t.busy) (step { fresh with busy := true, agenda := [.reset] }) = none := by
  decide +kernel

/-- A table word placed by the host is what the next step runs: a request, a command word, a frame's unit. -/
theorem test_withFetchWord :
    let s := { State.reset with writeAnswers := [true] }
    (field (fun t => t.responses) (step (s.withFetchWord 16 0x6000)),
      written (step (s.withFetchWord 16 0x8020)), written (step (s.withFetchWord 16 0xA02C)),
      written (step (s.withFetchWord 8 0x41))) =
    (some [0x40], some [[0x80, 0x20]], some [[0xA0, 0x2C]], some [[0x41]]) := by decide +kernel

/-! ### Witnesses: every statement's hypotheses are met somewhere -/

theorem witness_DecodingAnEncodedInstructionGivesItBack :
    testConfig.distinct = true ∧ (Instr.cmdw 0xFF).wellFormed testConfig = true ∧
      (Instr.cmdPwmDuty 15).wellFormed testConfig = true ∧ (Instr.datb 0x3F).wellFormed testConfig = true := by
  decide

/-- Two words of the same CLEAR (T16), and two of the same GET_CELL. -/
theorem witness_IgnoredRequestBitsChangeNothing :
    (0x5A5A#16 &&& significantBits 0x5 = 0x5000#16 &&& significantBits 0x5) ∧
      (0x4001#16 &&& significantBits 0x4 = 0x4000#16 &&& significantBits 0x4) := by decide

/-- One word for each clause. -/
theorem witness_ForeignWireWordsAreRejected :
    ((0xC000#16).extractLsb' 13 3 ≠ testConfig.cmdClass ∧ (0xC000#16).extractLsb' 13 3 ≠ testConfig.wrClass) ∧
    ((0x8001#16).extractLsb' 13 3 = testConfig.cmdClass ∧ (0x8001#16).extractLsb' 0 5 ≠ 0#5) ∧
    ((0xA040#16).extractLsb' 13 3 = testConfig.wrClass ∧ testConfig.cmdClass ≠ testConfig.wrClass ∧
      (0xA040#16).extractLsb' 6 7 ≠ 0#7) := by decide

theorem witness_CommandUnitsReadBackAsTheirRow :
    testConfig.distinct = true ∧ (Instr.cmdPwmDuty 5).wellFormed testConfig = true ∧
      commandOpcode testConfig (.cmdPwmDuty 5) = some 0xA5 := by decide

/-- The last location in range; the first address and the first bit index out of range; both lengths. -/
theorem witness_SetCellWritesOneBitOrNothing :
    (active.lcs = .active ∧ legalLen active.len ∧ (95#8).toNat < active.len ∧ (3#3).toNat ≤ 3) ∧
    (active64.lcs = .active ∧ legalLen active64.len ∧ active64.len ≤ (64#8).toNat) ∧ 3 < (4#3).toNat := by
  refine ⟨⟨rfl, .inr rfl, by decide, by decide⟩, ⟨rfl, .inl rfl, by decide⟩, by decide⟩

theorem witness_GetCellReturnsTheBitOrFalse : active.lcs = .active := rfl

theorem witness_GetAfterSetReturnsTheValue :
    active64.lcs = .active ∧ legalLen active64.len ∧ (63#8).toNat < active64.len ∧ (3#3).toNat ≤ 3 :=
  ⟨rfl, .inl rfl, by decide, by decide⟩

theorem witness_ClearZeroesEveryBitOfTheFramebuffer : active64.lcs = .active ∧ legalLen active64.len := ⟨rfl, .inl rfl⟩

theorem witness_RequestsInAWrongStateAreAnsweredBadState :
    (Instr.clear.needsActive = true ∧ fresh.lcs ≠ .active) ∧ active.lcs ≠ .uninitialized := by decide

/-- The two ends of each range of reserved words. -/
theorem witness_ReservedWordsAreAnsweredIllegalRequest :
    (0x0FFF#16).extractLsb' 12 4 = 0 ∧ 8 ≤ ((0x8000#16).extractLsb' 12 4).toNat ∧
      8 ≤ ((0xFFFF#16).extractLsb' 12 4).toNat := by decide

theorem witness_CommandRowsSendOneWordInOneTransaction :
    commandOpcode active.cfg .cmdMaster = some 0x14 ∧ active.unhindered := ⟨by decide, rfl, rfl, rfl⟩

theorem witness_CommandRowsNeedAnIdleSequencer :
    commandOpcode selected.cfg (.cmdw 0xFF) = some 0xFF ∧ selected.ts ≠ .idle := by decide

theorem witness_SetBrightnessSendsTheMaskedDuty :
    let s := { active with writeAnswers := [true] }
    s.lcs = .active ∧ s.unhindered ∧ (drawWrite s).1 = true := ⟨rfl, ⟨rfl, rfl, rfl⟩, rfl⟩

theorem witness_SetBrightnessReportsAFailedWriteAfterCleanUp :
    let s := { active with writeAnswers := [false] }
    s.lcs = .active ∧ s.unhindered ∧ (drawWrite s).1 = false := ⟨rfl, ⟨rfl, rfl, rfl⟩, rfl⟩

theorem witness_TransmitFrameSendsThePaddedBitString :
    let s := { active with writeAnswers := List.replicate 49 true }
    s.lcs = .active ∧ legalLen s.len ∧ s.unhindered ∧ s.writeAnswers = List.replicate (1 + s.len / 2) true ++ [] :=
  ⟨rfl, .inr rfl, ⟨rfl, rfl, rfl⟩, rfl⟩

/-- The first unit and the last one of a frame of length 64. -/
theorem witness_TransmitFrameStopsAtAFailedUnit :
    (let s := { active64 with writeAnswers := [false] };
      s.lcs = .active ∧ legalLen s.len ∧ s.unhindered ∧ 0 < 1 + s.len / 2 ∧
        s.writeAnswers = List.replicate 0 true ++ false :: []) ∧
    (let s := { active64 with writeAnswers := List.replicate 32 true ++ [false] };
      s.lcs = .active ∧ legalLen s.len ∧ s.unhindered ∧ 32 < 1 + s.len / 2 ∧
        s.writeAnswers = List.replicate 32 true ++ false :: []) :=
  ⟨⟨rfl, .inl rfl, ⟨rfl, rfl, rfl⟩, by decide, rfl⟩, ⟨rfl, .inl rfl, ⟨rfl, rfl, rfl⟩, by decide, rfl⟩⟩

/-- Both lengths, and the first and the last padding position of each. -/
theorem witness_FrameHasTheStatedUnitsAndBytes :
    (let s := { active64 with writeAnswers := List.replicate 33 true };
      s.lcs = .active ∧ legalLen s.len ∧ s.unhindered ∧
        s.writeAnswers = List.replicate (1 + s.len / 2) true ++ [] ∧ 10 + 4 * s.len ≤ 266 ∧ 271 < 8 * 34) ∧
    (let s := { active with writeAnswers := List.replicate 49 true };
      s.lcs = .active ∧ legalLen s.len ∧ s.unhindered ∧
        s.writeAnswers = List.replicate (1 + s.len / 2) true ++ [] ∧ 10 + 4 * s.len ≤ 394 ∧ 399 < 8 * 50) :=
  ⟨⟨rfl, .inl rfl, ⟨rfl, rfl, rfl⟩, rfl, by decide, by decide⟩,
    ⟨rfl, .inr rfl, ⟨rfl, rfl, rfl⟩, rfl, by decide, by decide⟩⟩

/-- Both lengths, the first and the last cell of each, the first and the last bit. -/
theorem witness_FramePutsEveryBitAtItsPosition :
    (let s := { active64 with writeAnswers := List.replicate 33 true };
      s.lcs = .active ∧ legalLen s.len ∧ s.unhindered ∧
        s.writeAnswers = List.replicate (1 + s.len / 2) true ++ [] ∧ 0 < s.len ∧ 63 < s.len) ∧
    (let s := { active with writeAnswers := List.replicate 49 true };
      s.lcs = .active ∧ legalLen s.len ∧ s.unhindered ∧
        s.writeAnswers = List.replicate (1 + s.len / 2) true ++ [] ∧ 0 < s.len ∧ 95 < s.len) ∧ 0 ≤ 3 ∧ 3 ≤ 3 :=
  ⟨⟨rfl, .inl rfl, ⟨rfl, rfl, rfl⟩, rfl, by decide, by decide⟩,
    ⟨rfl, .inr rfl, ⟨rfl, rfl, rfl⟩, rfl, by decide, by decide⟩, by decide, by decide⟩

/-- The first pass and the last. -/
theorem witness_DataLoopWritesTheNextByte :
    (let s := { selected with cur := 1 };
      s.ts = .selected ∧ legalLen s.len ∧ s.cur = 2 * 0 + 1 ∧ s.cur < s.len) ∧
    (let s := { selected with cur := 95 };
      s.ts = .selected ∧ legalLen s.len ∧ s.cur = 2 * 47 + 1 ∧ s.cur < s.len) :=
  ⟨⟨rfl, .inr rfl, rfl, by decide⟩, ⟨rfl, .inr rfl, rfl, by decide⟩⟩

/-- Each of the three rows. -/
theorem witness_FrameRowsWriteTheirOneUnit :
    frameRowUnit selected.cfg (.hdrw 0x2C) = some [0xA0, 0x2C] ∧ frameRowUnit selected.cfg (.datb 0xFF) = some [0xFF] ∧
      frameRowUnit selected.cfg (.datbLast 3) = some [0xC0] ∧ selected.ts = .selected ∧ selected.agenda = [] := by
  decide

theorem witness_FrameRowsNeedAnOpenTransaction :
    frameRowUnit active.cfg (.datb 0xFF) = some [0xFF] ∧ active.ts ≠ .selected := by decide

/-- A mode of each length. -/
theorem witness_InitBringsTheChipUp :
    (let s := { fresh with openAnswers := [true], allocAnswers := [true], writeAnswers := List.replicate 41 true };
      s.lcs = .uninitialized ∧ s.unhindered ∧ s.openAnswers = true :: [] ∧ s.allocAnswers.head? = some true ∧
        s.writeAnswers = List.replicate (9 + lenOf s.cfg 0x28 / 2) true ++ []) ∧
    (let s := { fresh with openAnswers := [true], allocAnswers := [true], writeAnswers := List.replicate 57 true };
      s.lcs = .uninitialized ∧ s.unhindered ∧ s.openAnswers = true :: [] ∧ s.allocAnswers.head? = some true ∧
        s.writeAnswers = List.replicate (9 + lenOf s.cfg 0x77 / 2) true ++ []) :=
  ⟨⟨rfl, ⟨rfl, rfl, rfl⟩, rfl, rfl, by decide +kernel⟩, ⟨rfl, ⟨rfl, rfl, rfl⟩, rfl, rfl, by decide +kernel⟩⟩

theorem witness_LengthFollowsTheMode : testConfig.wf = true ∧
    0x77#8 ∉ [testConfig.mode8N, testConfig.mode8P, testConfig.mode16N, testConfig.mode16P] := by decide

theorem witness_InitReportsAFailedOpen :
    let s := { fresh with openAnswers := [false] }
    s.lcs = .uninitialized ∧ s.agenda = [] ∧ s.openAnswers = false :: [] := ⟨rfl, rfl, rfl⟩

theorem witness_InitReportsAFailedAllocation :
    let s := { fresh with openAnswers := [true], allocAnswers := [false] }
    s.lcs = .uninitialized ∧ s.agenda = [] ∧ s.cfg.allocCanFail = true ∧ s.openAnswers = true :: [] ∧
      s.allocAnswers = false :: [] := ⟨rfl, rfl, rfl, rfl, rfl⟩

/-- The first command and the eighth. -/
theorem witness_InitStopsAtAFailedCommand :
    (let s := { fresh with openAnswers := [true], allocAnswers := [true], writeAnswers := [false] };
      s.lcs = .uninitialized ∧ s.unhindered ∧ s.openAnswers.head? = some true ∧ s.allocAnswers.head? = some true ∧
        0 < 8 ∧ s.writeAnswers = List.replicate 0 true ++ false :: []) ∧
    (let s := { fresh with
        openAnswers := [true], allocAnswers := [true], writeAnswers := List.replicate 7 true ++ [false] };
      s.lcs = .uninitialized ∧ s.unhindered ∧ s.openAnswers.head? = some true ∧ s.allocAnswers.head? = some true ∧
        7 < 8 ∧ s.writeAnswers = List.replicate 7 true ++ false :: []) :=
  ⟨⟨rfl, ⟨rfl, rfl, rfl⟩, rfl, rfl, by decide, rfl⟩, ⟨rfl, ⟨rfl, rfl, rfl⟩, rfl, rfl, by decide, rfl⟩⟩

/-- The header unit and the last data unit of a blank frame of length 64. -/
theorem witness_InitStopsAtAFailedFrameUnit :
    (let s := { fresh with
        openAnswers := [true], allocAnswers := [true], writeAnswers := List.replicate 8 true ++ [false] };
      s.lcs = .uninitialized ∧ s.unhindered ∧ s.openAnswers.head? = some true ∧ s.allocAnswers.head? = some true ∧
        0 < 1 + lenOf s.cfg 0x20 / 2 ∧ s.writeAnswers = List.replicate (8 + 0) true ++ false :: []) ∧
    (let s := { fresh with
        openAnswers := [true], allocAnswers := [true], writeAnswers := List.replicate 40 true ++ [false] };
      s.lcs = .uninitialized ∧ s.unhindered ∧ s.openAnswers.head? = some true ∧ s.allocAnswers.head? = some true ∧
        32 < 1 + lenOf s.cfg 0x20 / 2 ∧ s.writeAnswers = List.replicate (8 + 32) true ++ false :: []) :=
  ⟨⟨rfl, ⟨rfl, rfl, rfl⟩, rfl, rfl, by decide, rfl⟩, ⟨rfl, ⟨rfl, rfl, rfl⟩, rfl, rfl, by decide, rfl⟩⟩

theorem witness_CloseReleasesOnceAndIsIdempotent : active.lcs = .active ∧ fresh.lcs ≠ .active := by decide

/-- The record of an acquisition, and of one released again. -/
theorem acquired_protocol : protocolState [.openCall true] = some (true, .idle) := rfl

theorem released_protocol : protocolState [.openCall true, .closeCall] = some (false, .idle) := rfl

/-- The machine closed, in a state that meets the invariant. -/
def closed : State := { fresh with lcs := .closed, trace := [.openCall true, .closeCall] }

theorem closed_inv : closed.Inv := by
  constructor <;>
    simp [closed, fresh, State.reset, legalLen, lenDefault, Lifecycle.settled, released_protocol, State.stage, Stage.phase]

theorem witness_OnlyResetLeavesClosed :
    closed.Inv ∧ closed.lcs = .closed ∧ closed.agenda.head? ≠ some .reset ∧ step closed = .next closed :=
  ⟨closed_inv, rfl, by decide, rfl⟩

/-- Each phase, the lock free and not. -/
theorem witness_TransactionStepsFollowTheTable :
    active.ts = .idle ∧ active.guard = .free ∧ ({ active with ts := .wait } : State).ts = .wait ∧
      ({ active with ts := .locked } : State).ts = .locked ∧ selected.ts = .selected ∧ selected.guard ≠ .free ∧
      ({ active with ts := .deselected } : State).ts = .deselected := by decide

/-- One state for each request that opens a transaction. -/
theorem witness_WaitsForTheLockAndThenGoesOn :
    (let s := { active with guard := .other };
      (Instr.setBrightness 5).sendsFrom = some .active ∧ Instr.transmitFrame.sendsFrom = some .active ∧
        s.lcs = .active ∧ legalLen s.len ∧ s.ts = .idle ∧ s.guard = .other ∧ s.agenda = [] ∧ s.pending = []) ∧
    (let s := { fresh with guard := .other, openAnswers := [true], allocAnswers := [true] };
      (Instr.init 0x28).sendsFrom = some .uninitialized ∧ s.lcs = .uninitialized ∧ legalLen s.len ∧ s.ts = .idle ∧
        s.guard = .other ∧ s.agenda = [] ∧ s.pending = [] ∧ s.openAnswers.head? = some true ∧
        s.cfg.allocCanFail = true ∧ s.allocAnswers.head? = some true) :=
  ⟨⟨rfl, rfl, rfl, .inr rfl, rfl, rfl, rfl, rfl⟩, ⟨rfl, rfl, .inr rfl, rfl, rfl, rfl, rfl, rfl, rfl, rfl⟩⟩

/-- Another user takes the lock before the framer asks for it and never gives it back; and one that does. -/
theorem witness_OtherBusUsersNeverChangeAResult :
    (let s := { active with agenda := [.otherTakes, .framer], writeAnswers := [true] };
      s.ts = .idle ∧ s.guard ≠ .framer ∧ s.pending = [] ∧ legalLen s.len ∧ s.agenda.all Turn.ordinary = true ∧
        (∃ t, exec (.setBrightness 5) s = .next t ∧ t.pending ≠ []) ∧
        ∃ t, exec (.setBrightness 5) { s with agenda := [], guard := .free } = .next t) ∧
    (let s := { active with agenda := [.otherTakes, .framer, .framer, .otherReleases], writeAnswers := [true] };
      s.agenda.all Turn.ordinary = true ∧ ∃ t, exec (.setBrightness 5) s = .next t ∧ t.responses = [0x00]) := by
  refine ⟨⟨rfl, by decide, rfl, .inr rfl, by decide, ⟨_, rfl, by decide +kernel⟩, ⟨_, rfl⟩⟩, by decide, _, rfl, ?_⟩
  decide +kernel

theorem witness_EveryRequestEndsWithOneResponse :
    Instr.transmitFrame.isRequest = true ∧ active.unhindered ∧ active.cs = false ∧ active.gh = false ∧
      legalLen active.len := ⟨rfl, ⟨rfl, rfl, rfl⟩, rfl, rfl, .inr rfl⟩

theorem witness_OtherUsersMoveOnlyTheLock :
    ({ active with agenda := [.otherTakes] } : State).agenda = [.otherTakes] ∧
      ({ active with agenda := [.otherReleases] } : State).agenda = [.otherReleases] := ⟨rfl, rfl⟩

theorem witness_ResetSetsTheRegistersAndNothingOutside :
    (let s := { active with agenda := [.reset] };
      s.agenda = .reset :: [] ∧ s.busy = false) ∧
    (let s := { active with agenda := [.reset], busy := true };
      s.agenda = .reset :: [] ∧ s.busy = true) := ⟨⟨rfl, rfl⟩, ⟨rfl, rfl⟩⟩

/-- The machine in `Active` with a response still to give, in a state that meets the invariant. -/
def answering : State := { active with busy := true, pending := [.respond .ok false], requests := [0x6000] }

theorem answering_inv : answering.Inv := by
  constructor <;>
    simp [answering, active, State.reset, legalLen, lenDefault, Lifecycle.settled, acquired_protocol, State.stage,
      Stage.phase, leadsToResponse]

/-- One state for each clause. -/
theorem witness_StepRunsTheDecodedRequest :
    (let s := { active with requests := [0x6000] };
      s.pending = [] ∧ s.agenda = [] ∧ s.busy = false ∧ s.requests = 0x6000 :: []) ∧
    (let s := { active with requests := [0x6000], agenda := [.framer] };
      s.pending = [] ∧ s.agenda = .framer :: [] ∧ s.busy = false ∧ s.requests = 0x6000 :: []) ∧
    (active.pending = [] ∧ active.agenda = [] ∧ active.busy = false ∧ active.requests = []) ∧
    (let s := { active with busy := true }; s.pending = [] ∧ s.agenda = [] ∧ s.busy = true) ∧
    (answering.pending ≠ [] ∧ answering.agenda = []) ∧
    (answering.Inv ∧ answering.busy = true ∧ ∃ t, step answering = .next t ∧ t.busy = false) :=
  ⟨by decide, by decide, by decide, by decide, by decide, answering_inv, rfl, _, rfl, by decide +kernel⟩

/-- The machine in `Active` meets the invariant. -/
theorem active_inv : active.Inv := by
  constructor <;>
    simp [active, State.reset, legalLen, lenDefault, Lifecycle.settled, acquired_protocol, State.stage, Stage.phase]

theorem witness_EveryStepKeepsTheInvariant : active.Inv ∧ step active = .next active := ⟨active_inv, rfl⟩

theorem witness_OnlyTheNamedRequestsWriteTheStoreAndTheMode :
    ∃ t, exec (.setCell 0 0 true) active = .next t ∧ t.fb ≠ active.fb := ⟨_, rfl, by decide +kernel⟩

theorem witness_StepsOnlyAppendToTheRecords :
    ∃ t, step { fresh with requests := [0x8000] } = .next t ∧ t.responses = [0x50] := ⟨_, rfl, by decide +kernel⟩

end Sys2Proof.Machine.Tests
end

section
/-! SUPPORT. Carrying out steps under any agenda: what every move keeps holds of where the framer stops. -/

namespace Sys2Proof.Machine

/-- `P` holds of the steps that remain and the state after one step of the framer, if there is one. -/
def Progress.Keeps (P : List Micro → State → Prop) (rest : List Micro) : Progress → Prop
  | .go t more => P (more ++ rest) t
  | .abort t steps => P steps t
  | .stuck => True

/-- The framer stops somewhere with some steps left, and a property of both that the moves of every agent keep holds
there. -/
theorem settle_keeps {P : List Micro → State → Prop}
    (hturn : ∀ {steps s} turns, P steps s → P steps { s with agenda := turns })
    (htakes : ∀ {steps s}, P steps s → P steps (otherTakes s))
    (hreleases : ∀ {steps s}, P steps s → P steps (otherReleases s))
    (hmicro : ∀ {m rest s}, P (m :: rest) s → (micro m s).Keeps P rest) :
    ∀ (n : Nat) {steps : List Micro} {s : State}, P steps s →
      ∃ rest t, P rest t ∧ settle n steps s = suspend rest t
  | 0, steps, s, h => ⟨steps, s, h, rfl⟩
  | _ + 1, [], s, h => ⟨[], s, h, rfl⟩
  | n + 1, m :: rest, s, h => by
    have ih {steps s} := @settle_keeps P hturn htakes hreleases hmicro n steps s
    cases ha : s.agenda with
    | nil =>
      have hk := hmicro h
      simp only [settle, ha]
      cases hm : micro m s <;> rw [hm] at hk
      · exact ih hk
      · exact ih hk
      · exact ⟨_, _, h, rfl⟩
    | cons turn turns =>
      have ht := hturn turns h
      simp only [settle, ha]
      cases turn with
      | otherTakes => exact ih (htakes ht)
      | otherReleases => exact ih (hreleases ht)
      | pause => exact ⟨_, _, ht, rfl⟩
      | reset => exact ⟨_, _, h, rfl⟩
      | framer =>
        have hk := hmicro ht
        cases hm : micro m { s with agenda := turns } <;> simp only [hm] at hk ⊢
        · exact ih hk
        · exact ih hk
        · exact ih ht

/-- Using up the framer's turn changes only the agenda. -/
theorem dropTurn_eq (s : State) : ∃ turns, dropTurn s = { s with agenda := turns } := by
  unfold dropTurn
  split
  · exact ⟨_, rfl⟩
  · exact ⟨s.agenda, rfl⟩

/-- Another user's move changes only the lock's owner, between free and the other user (R132). -/
theorem otherTakes_eq (s : State) :
    ∃ g, otherTakes s = { s with guard := g } ∧ (g = .framer ↔ s.guard = .framer) := by
  unfold otherTakes
  split
  next hfree => exact ⟨.other, rfl, by simp [hfree]⟩
  next => exact ⟨s.guard, rfl, Iff.rfl⟩

theorem otherReleases_eq (s : State) :
    ∃ g, otherReleases s = { s with guard := g } ∧ (g = .framer ↔ s.guard = .framer) := by
  unfold otherReleases
  split
  next hother => exact ⟨.free, rfl, by simp [hother]⟩
  next => exact ⟨s.guard, rfl, Iff.rfl⟩

/-- What a request word selects is a request (R60, R62). -/
theorem decodeRequest_isRequest (w : Word) : (decodeRequest w).isRequest = true := by
  unfold decodeRequest
  split <;> rfl

end Sys2Proof.Machine
end

section
/-! SUPPORT. The invariant read apart: what the interfaces show at a stage of a transaction, and the place the remaining
steps of a request have there. -/

namespace Sys2Proof.Machine

/-- The registers and the record agree that the transaction has come to stage `g` (R19, R23, R121). -/
structure Synced (g : Stage) (s : State) : Prop where
  len_legal : legalLen s.len
  ts_eq : s.ts = g.phase
  cs_eq : s.cs = csOf g.phase
  gh_eq : s.gh = ghOf g.phase
  guard_iff : s.guard = .framer ↔ ghOf g.phase = true
  protocol : protocolState s.trace = some (s.opened, g)

/-- The steps `steps` have their place at stage `g` of state `s`: the clauses of `State.Inv` about the steps that remain. -/
structure Placed (steps : List Micro) (g : Stage) (s : State) : Prop where
  synced : Synced g s
  len_default : s.lcs = .uninitialized → s.len = 96 ∨ steps.head? = some .giveUp
  busy_iff : s.busy = true ↔ steps ≠ []
  idle_between : steps = [] → g = .idle ∧ s.lcs.settled = true
  leads : steps ≠ [] → leadsToResponse steps (g, s.lcs) = true
  cursor : steps.head? = some .writeData → ∃ n, g = .sent n ∧ s.cur = 2 * n + 1 ∧ s.cur < s.len
  opened_held : s.lcs = .disabled ∨ s.lcs = .configuring ∨ s.lcs = .active ∨ steps.head? = some .giveUp →
    s.opened = true
  opened_closed : s.lcs = .closed → s.opened = false

/-- The block between two requests, whatever `BUSY` says: no transaction is open (R16, R19). -/
structure AtRest (s : State) : Prop where
  synced : Synced .idle s
  settled : s.lcs.settled = true
  len_default : s.lcs = .uninitialized → s.len = 96
  opened_active : s.lcs = .active → s.opened = true
  opened_closed : s.lcs = .closed → s.opened = false

theorem csOf_eq_true_iff (p : Phase) : csOf p = true ↔ p = .selected := by cases p <;> simp [csOf]

theorem ghOf_eq_true_iff (p : Phase) : ghOf p = true ↔ p = .locked ∨ p = .selected ∨ p = .deselected := by
  cases p <;> simp [ghOf]

/-- The record says which stage a state is at. -/
theorem Synced.stage_eq {g : Stage} {s : State} (h : Synced g s) : s.stage = g := by simp [State.stage, h.protocol]

theorem State.Inv.synced {s : State} (h : s.Inv) : Synced s.stage s where
  len_legal := h.len_legal
  ts_eq := h.phase
  cs_eq := by rw [Bool.eq_iff_iff, csOf_eq_true_iff, ← h.phase, h.cs_iff]
  gh_eq := by rw [Bool.eq_iff_iff, ghOf_eq_true_iff, ← h.phase, h.gh_iff]
  guard_iff := by rw [h.guard_iff, h.gh_iff, h.phase, ghOf_eq_true_iff]
  protocol := h.protocol

theorem State.Inv.placed {s : State} (h : s.Inv) : Placed s.pending s.stage s where
  synced := h.synced
  len_default := h.len_default
  busy_iff := h.busy_iff
  idle_between hp := by
    obtain ⟨hts, hset⟩ := h.idle_between hp
    refine ⟨?_, hset⟩
    have hphase := h.phase
    rw [hts] at hphase
    cases hg : s.stage <;> simp [hg, Stage.phase] at hphase ⊢
  leads := h.leads
  cursor := h.cursor
  opened_held := h.opened_held
  opened_closed := h.opened_closed

theorem Placed.inv {steps : List Micro} {g : Stage} {s : State} (h : Placed steps g s) (hp : s.pending = steps) :
    s.Inv where
  len_legal := h.synced.len_legal
  len_default := hp ▸ h.len_default
  cs_iff := by rw [h.synced.cs_eq, h.synced.ts_eq, csOf_eq_true_iff]
  gh_iff := by rw [h.synced.gh_eq, h.synced.ts_eq, ghOf_eq_true_iff]
  guard_iff := by rw [h.synced.guard_iff, h.synced.gh_eq]
  busy_iff := hp ▸ h.busy_iff
  idle_between hn := by
    obtain ⟨hg, hset⟩ := h.idle_between (hp ▸ hn)
    exact ⟨by rw [h.synced.ts_eq, hg]; rfl, hset⟩
  leads hn := by rw [hp, h.synced.stage_eq]; exact h.leads (hp ▸ hn)
  cursor := by rw [hp, h.synced.stage_eq]; exact h.cursor
  opened_held := hp ▸ h.opened_held
  opened_closed := h.opened_closed
  protocol := by rw [h.synced.stage_eq]; exact h.synced.protocol
  phase := by rw [h.synced.stage_eq]; exact h.synced.ts_eq

/-! ### How `Synced` goes from state to state -/

/-- The two states agree on the sequencer's phase and flags, and on whether the framer owns the lock. -/
structure SameFlags (s t : State) : Prop where
  ts : t.ts = s.ts
  cs : t.cs = s.cs
  gh : t.gh = s.gh
  guard : t.guard = .framer ↔ s.guard = .framer

/-- No event. -/
theorem Synced.of_same {g : Stage} {s t : State} (h : Synced g s) (hf : SameFlags s t) (hlen : t.len = s.len)
    (ho : t.opened = s.opened) (htr : t.trace = s.trace) : Synced g t where
  len_legal := hlen ▸ h.len_legal
  ts_eq := hf.ts.trans h.ts_eq
  cs_eq := hf.cs.trans h.cs_eq
  gh_eq := hf.gh.trans h.gh_eq
  guard_iff := hf.guard.trans h.guard_iff
  protocol := by rw [htr, ho, h.protocol]

/-- The record with one event more. -/
theorem Synced.protocol_emit {g : Stage} {s : State} (h : Synced g s) (e : Event) :
    protocolState (s.trace ++ [e]) = protocolStep (some (s.opened, g)) e := by
  rw [protocolState_append, h.protocol]

/-- An event within a phase: a unit written, or the transport acquired or released. -/
theorem Synced.event {g g' : Stage} {s t : State} {e : Event} (h : Synced g s)
    (hp : protocolStep (some (s.opened, g)) e = some (t.opened, g')) (hg : g'.phase = g.phase)
    (hf : SameFlags s t) (hlen : legalLen t.len) (htr : t.trace = s.trace ++ [e]) : Synced g' t where
  len_legal := hlen
  ts_eq := by rw [hf.ts, hg, h.ts_eq]
  cs_eq := by rw [hf.cs, hg, h.cs_eq]
  gh_eq := by rw [hf.gh, hg, h.gh_eq]
  guard_iff := by rw [hf.guard, hg, h.guard_iff]
  protocol := by rw [htr, h.protocol_emit, hp]

/-- An event that leads to another phase, and the sequencer in that phase (R122 to R127). -/
theorem Synced.enter {g g' : Stage} {s : State} {e : Event} (owner : Guard) (h : Synced g s)
    (hp : protocolStep (some (s.opened, g)) e = some (s.opened, g'))
    (hg : owner = .framer ↔ ghOf g'.phase = true) :
    Synced g' { setPhase g'.phase (emit e s) with guard := owner } :=
  ⟨h.len_legal, rfl, rfl, rfl, hg, (h.protocol_emit e).trans hp⟩

/-! ### Remaining steps and their place -/

/-- A lifecycle state in which the transport is held (R106, R112). -/
def Lifecycle.held (l : Lifecycle) : Bool := l == .disabled || l.sending

theorem Lifecycle.held_iff (l : Lifecycle) : l.held = true ↔ l = .disabled ∨ l = .configuring ∨ l = .active := by
  cases l <;> decide

/-- The table of `afterMicro` as a relation: in lifecycle state `l` the step leads from one stage to another, and to a
lifecycle state. -/
inductive LeadsOn (l : Lifecycle) : Micro → Stage → Stage → Lifecycle → Prop
  | acquire (mode : BitVec 8) (hl : l = .uninitialized) : LeadsOn l (.acquire mode) .idle .idle .disabled
  | enterConfiguring (hl : l = .disabled) : LeadsOn l .enterConfiguring .idle .idle .configuring
  | stageCommand (opcode : BitVec 8) (hl : l.sending = true) : LeadsOn l (.stageCommand opcode) .idle .idle l
  | stageCommonsMode (hl : l.sending = true) : LeadsOn l .stageCommonsMode .idle .idle l
  | stageHeader (hl : l.sending = true) : LeadsOn l .stageHeader .idle .idle l
  | requestGuard (hl : l.sending = true) : LeadsOn l .requestGuard .idle .wait l
  | takeGrant (hl : l.sending = true) : LeadsOn l .takeGrant .wait .locked l
  | assertSelect (hl : l.sending = true) : LeadsOn l .assertSelect .locked .selected l
  | writeStaged (hl : l.sending = true) : LeadsOn l .writeStaged .selected .failed l
  | writeHeader (hl : l.sending = true) : LeadsOn l .writeHeader .selected .failed l
  | writeData (n : Nat) (hl : l.sending = true) : LeadsOn l .writeData (.sent n) .failed l
  | deassertSelect_sent (n : Nat) (hl : l.sending = true) (hn : wholeCount n = true) :
      LeadsOn l .deassertSelect (.sent n) .deselected l
  | deassertSelect_failed (hl : l.sending = true) : LeadsOn l .deassertSelect .failed .deselected l
  | releaseGuard (hl : l.sending = true) : LeadsOn l .releaseGuard .deselected .idle l
  | checkWrite (hl : l.sending = true) : LeadsOn l .checkWrite .idle .idle l
  | clearStore (hl : l = .configuring) : LeadsOn l .clearStore .idle .idle .configuring
  | enterActive (hl : l = .configuring) : LeadsOn l .enterActive .idle .idle .active

theorem leadsOn_of_afterMicro {m : Micro} {g g' : Stage} {l l' : Lifecycle} (h : afterMicro m (g, l) = some (g', l')) :
    LeadsOn l m g g' l' := by
  unfold afterMicro at h
  split at h
  all_goals try split at h
  all_goals simp only [Option.some.injEq, Prod.mk.injEq, reduceCtorEq] at h
  all_goals
    obtain ⟨rfl, rfl⟩ := h
    simp_all only [Bool.and_eq_true, Prod.mk.injEq]
    constructor <;> simp_all

section
variable {m : Micro} {g g' : Stage} {l l' : Lifecycle}

theorem LeadsOn.held_after (h : LeadsOn l m g g' l') : l'.held = true := by
  cases h <;> simp_all [Lifecycle.held, Lifecycle.sending]

/-- But for the acquisition, a planned step has its place only where the transport is held already. -/
theorem LeadsOn.held_before (h : LeadsOn l m g g' l') (hm : ∀ mode, m ≠ .acquire mode) : l.held = true := by
  cases h <;> simp_all [Lifecycle.held, Lifecycle.sending]

/-- No plan counts on a unit being written. -/
theorem LeadsOn.not_sent (h : LeadsOn l m g g' l') (n : Nat) : g' ≠ .sent n := by
  cases h <;> simp

end

/-- The data loop has its place only after a unit that was written. -/
theorem leadsToResponse_writeData {rest : List Micro} {g : Stage} {l : Lifecycle}
    (h : leadsToResponse (.writeData :: rest) (g, l) = true) : ∃ n, g = .sent n := by
  rcases leadsToResponse_cons h with ⟨_, _, hm, _⟩ | ⟨_, _, hm, _⟩ | ⟨q, hq, _⟩
  · cases hm
  · cases hm
  · cases g <;> simp [afterMicro] at hq ⊢

/-- Steps that lead to a response from a stage at which no unit is written do not begin with the data loop. -/
theorem head_ne_writeData {steps : List Micro} {g : Stage} {l : Lifecycle}
    (h : leadsToResponse steps (g, l) = true) (hg : ∀ n, g ≠ .sent n) : steps.head? ≠ some .writeData := by
  intro hh
  obtain ⟨rest, rfl⟩ := List.head?_eq_some_iff.mp hh
  obtain ⟨n, hn⟩ := leadsToResponse_writeData h
  exact hg n hn

theorem ne_nil_of_leads {steps : List Micro} {p : Stage × Lifecycle} (h : leadsToResponse steps p = true) :
    steps ≠ [] := by
  rintro rfl
  simp [leadsToResponse] at h

/-- Steps in a lifecycle state that holds the transport, when it is held, have their place. -/
theorem Placed.of_held {steps : List Micro} {g : Stage} {s : State} (hs : Synced g s) (hl : s.lcs.held = true)
    (ho : s.opened = true) (hb : s.busy = true) (hleads : leadsToResponse steps (g, s.lcs) = true)
    (hcur : steps.head? = some .writeData → ∃ n, g = .sent n ∧ s.cur = 2 * n + 1 ∧ s.cur < s.len) :
    Placed steps g s where
  synced := hs
  len_default hu := by simp [hu, Lifecycle.held, Lifecycle.sending] at hl
  busy_iff := iff_of_true hb (ne_nil_of_leads hleads)
  idle_between hn := absurd hn (ne_nil_of_leads hleads)
  leads _ := hleads
  cursor := hcur
  opened_held _ := ho
  opened_closed hc := by simp [hc, Lifecycle.held, Lifecycle.sending] at hl

theorem Placed.atRest {g : Stage} {s : State} (h : Placed [] g s) : AtRest s where
  synced := (h.idle_between rfl).1 ▸ h.synced
  settled := (h.idle_between rfl).2
  len_default hu := by simpa using h.len_default hu
  opened_active ha := h.opened_held (.inr (.inr (.inl ha)))
  opened_closed := h.opened_closed

/-- Between requests the block meets the invariant. -/
theorem AtRest.placed_nil {s : State} (h : AtRest s) (hb : s.busy = false) : Placed [] .idle s where
  synced := h.synced
  len_default hu := .inl (h.len_default hu)
  busy_iff := by simp [hb]
  idle_between _ := ⟨rfl, h.settled⟩
  leads hn := absurd rfl hn
  cursor hh := by cases hh
  opened_held ho := by
    have hset := h.settled
    rcases ho with ho | ho | ho | ho
    · simp [ho, Lifecycle.settled] at hset
    · simp [ho, Lifecycle.settled] at hset
    · exact h.opened_active ho
    · cases ho
  opened_closed := h.opened_closed

/-- A request just accepted, with steps before it that lead to its response. -/
theorem AtRest.placed {steps : List Micro} {s : State} (h : AtRest s) (hb : s.busy = true)
    (hleads : leadsToResponse steps (.idle, s.lcs) = true) (hgive : steps.head? ≠ some .giveUp) :
    Placed steps .idle s where
  synced := h.synced
  len_default hu := .inl (h.len_default hu)
  busy_iff := iff_of_true hb (ne_nil_of_leads hleads)
  idle_between hn := absurd hn (ne_nil_of_leads hleads)
  leads _ := hleads
  cursor hh := absurd hh (head_ne_writeData hleads (by simp))
  opened_held ho := by
    have hset := h.settled
    rcases ho with ho | ho | ho | ho
    · simp [ho, Lifecycle.settled] at hset
    · simp [ho, Lifecycle.settled] at hset
    · exact h.opened_active ho
    · exact absurd ho hgive
  opened_closed := h.opened_closed

theorem AtRest.placed_respond {s : State} (h : AtRest s) (hb : s.busy = true) (status : Status) (bit : Bool) :
    Placed [.respond status bit] .idle s :=
  h.placed hb (by simp [leadsToResponse, h.settled]) (by simp)

theorem AtRest.respond {s : State} (h : AtRest s) (status : Status) (bit : Bool) : AtRest (respond status bit s) :=
  ⟨h.synced.of_same ⟨rfl, rfl, rfl, Iff.rfl⟩ rfl rfl rfl, h.settled, h.len_default, h.opened_active, h.opened_closed⟩

end Sys2Proof.Machine
end

section
/-! SUPPORT. One step of the framer keeps the steps that remain in their place. -/

namespace Sys2Proof.Machine

/-- Steps in their place at some stage: what every move keeps. -/
def InPlace (steps : List Micro) (s : State) : Prop := ∃ g, Placed steps g s

/-- What the step before `rest` comes to, when the plan has it lead from stage `g` to `g'` and to lifecycle state `l'`. -/
structure Planned (m : Micro) (rest : List Micro) (g g' : Stage) (l' : Lifecycle) (s : State) : Prop where
  placed : Placed (m :: rest) g s
  leadsOn : LeadsOn s.lcs m g g' l'
  leads : leadsToResponse rest (g', l') = true

/-- The state of an `INIT` that holds the transport, before the allocation's answer counts (R106, R107). -/
def acquired (mode : BitVec 8) (opens allocs : List Bool) (fresh : Nat) (s : State) : State :=
  { emit (.openCall true) s with
    opened := true, mode := mode, len := lenOf s.cfg mode
    openAnswers := opens, allocAnswers := allocs, fresh := fresh }

/-- What an acquisition comes to: `open` failed, the allocation failed, or both were granted (R135, R136). -/
theorem acquire_cases (mode : BitVec 8) (s : State) :
    (∃ opens fresh, acquire mode s = raise .transportInitError false
      (emit (.openCall false) { s with openAnswers := opens, fresh := fresh })) ∨
    (∃ opens allocs fresh, acquire mode s = raise .allocationError true (acquired mode opens allocs fresh s)) ∨
    (∃ opens allocs fresh, acquire mode s = .go { acquired mode opens allocs fresh s with lcs := .disabled } []) := by
  obtain ⟨ok, opens, fresh, e⟩ := drawOpen_eq s
  unfold acquire
  rw [e]
  cases ok with
  | false => exact .inl ⟨opens, fresh, rfl⟩
  | true =>
    obtain ⟨ok, allocs, fresh', e'⟩ := drawAlloc_eq { emit (.openCall true)
      { s with openAnswers := opens, fresh := fresh } with opened := true, mode := mode, len := lenOf s.cfg mode }
    right
    simp only [allocate, emit] at e' ⊢
    rw [e']
    cases ok with
    | false => exact .inl ⟨opens, allocs, fresh', rfl⟩
    | true => exact .inr ⟨opens, allocs, fresh', rfl⟩

section
variable {m : Micro} {rest : List Micro} {g g' : Stage} {l' : Lifecycle} {s t : State}

theorem Placed.busy (h : Placed (m :: rest) g s) : s.busy = true := h.busy_iff.mpr (by simp)

theorem Planned.opened (h : Planned m rest g g' l' s) (hm : ∀ mode, m ≠ .acquire mode) : s.opened = true := by
  rcases (Lifecycle.held_iff _).mp (h.leadsOn.held_before hm) with hl | hl | hl
  all_goals exact h.placed.opened_held (by simp [hl])

/-- The step went as planned: the steps after it are in their place. -/
theorem Planned.go (h : Planned m rest g g' l' s) (hs : Synced g' t) (hl : t.lcs = l') (hb : t.busy = s.busy)
    (ho : t.opened = true) : (Progress.go t []).Keeps InPlace rest :=
  ⟨g', .of_held hs (hl ▸ h.leadsOn.held_after) ho (hb.trans h.placed.busy) (hl ▸ h.leads)
    fun hh => absurd hh (head_ne_writeData h.leads h.leadsOn.not_sent)⟩

/-- A step that changes nothing that a stage speaks of. -/
theorem Planned.quiet (h : Planned m rest g g l' s) (hm : ∀ mode, m ≠ .acquire mode) (hf : SameFlags s t)
    (hlen : t.len = s.len) (ho : t.opened = s.opened) (htr : t.trace = s.trace) (hb : t.busy = s.busy)
    (hl : t.lcs = l') : (Progress.go t []).Keeps InPlace rest :=
  h.go (h.placed.synced.of_same hf hlen ho htr) hl hb (ho.trans (h.opened hm))

/-- An acquisition about to be given back, outside a transaction (R110, R141). -/
theorem Synced.placed_giveUp (h : Synced .idle s) (hl : s.lcs = .uninitialized ∨ s.lcs = .configuring)
    (ho : s.opened = true) (hb : s.busy = true) (status : Status) (bit : Bool) :
    Placed [.giveUp, .respond status bit] .idle s where
  synced := h
  len_default _ := .inr rfl
  busy_iff := by simp [hb]
  idle_between hn := by cases hn
  leads _ := by rcases hl with hl | hl <;> simp [hl, leadsToResponse]
  cursor hh := by cases hh
  opened_held _ := ho
  opened_closed hc := by rcases hl with hl | hl <;> simp [hl] at hc

/-! ### The steps of the lifecycle -/

theorem keeps_respond {status : Status} {bit : Bool} (h : Placed [.respond status bit] g s) :
    (micro (.respond status bit) s).Keeps InPlace [] := by
  have hleads := h.leads (by simp)
  simp only [leadsToResponse, Bool.and_eq_true, beq_iff_eq] at hleads
  obtain ⟨rfl, hset⟩ := hleads
  have hrest : AtRest s := ⟨h.synced, hset, fun hu => by simpa using h.len_default hu,
    fun ha => h.opened_held (.inr (.inr (.inl ha))), h.opened_closed⟩
  exact ⟨.idle, (hrest.respond status bit).placed_nil rfl⟩

theorem keeps_giveUp {status : Status} {bit : Bool} (h : Placed [.giveUp, .respond status bit] .idle s) :
    (micro .giveUp s).Keeps InPlace [.respond status bit] := by
  have ho : s.opened = true := h.opened_held (by simp)
  have hsync : Synced .idle (giveUp s) :=
    h.synced.event (by rw [ho]; rfl) rfl ⟨rfl, rfl, rfl, Iff.rfl⟩ (.inr rfl) rfl
  have hrest : AtRest (giveUp s) := ⟨hsync, by simp [Lifecycle.settled], by simp [lenDefault], by simp, by simp⟩
  exact ⟨.idle, hrest.placed_respond h.busy status bit⟩

theorem protocolStep_openCall (opened ok : Bool) :
    protocolStep (some (opened, .idle)) (.openCall ok) = some (opened || ok, .idle) := rfl

/-- R106, R110: the acquisition goes on to the bring-up, or gives back what it has, or reports that `open` failed. -/
theorem keeps_acquire {mode : BitVec 8} (h : Planned (.acquire mode) rest g g' l' s) :
    (micro (.acquire mode) s).Keeps InPlace rest := by
  obtain ⟨_, hu⟩ := h.leadsOn
  have hsync := h.placed.synced
  have hopened (opens allocs : List Bool) (fresh : Nat) : Synced .idle (acquired mode opens allocs fresh s) :=
    hsync.event (by rw [protocolStep_openCall, Bool.or_true]; rfl) rfl ⟨rfl, rfl, rfl, Iff.rfl⟩ (lenOf_legal _ _) rfl
  simp only [micro]
  rcases acquire_cases mode s with ⟨opens, fresh, e⟩ | ⟨opens, allocs, fresh, e⟩ | ⟨opens, allocs, fresh, e⟩
  · have hfail : Synced .idle (emit (.openCall false) { s with openAnswers := opens, fresh := fresh }) :=
      hsync.event (by rw [protocolStep_openCall, Bool.or_false]; rfl) rfl ⟨rfl, rfl, rfl, Iff.rfl⟩ hsync.len_legal rfl
    have hrest : AtRest (emit (.openCall false) { s with openAnswers := opens, fresh := fresh }) :=
      ⟨hfail, by simp [hu, Lifecycle.settled], fun _ => by simpa using h.placed.len_default hu, by simp [hu],
        by simp [hu]⟩
    rw [e]
    exact ⟨.idle, hrest.placed_respond h.placed.busy _ _⟩
  · rw [e]
    exact ⟨.idle, (hopened opens allocs fresh).placed_giveUp (.inl hu) rfl h.placed.busy _ _⟩
  · rw [e]
    exact h.go ((hopened opens allocs fresh).of_same ⟨rfl, rfl, rfl, Iff.rfl⟩ rfl rfl rfl) rfl rfl rfl

/-- R85, R100, R110: after the transaction a failed write ends the request, and an `INIT` gives its acquisition back. -/
theorem keeps_checkWrite (h : Planned .checkWrite rest g g' l' s) : (micro .checkWrite s).Keeps InPlace rest := by
  have ho := h.opened (by simp)
  have hsync := h.placed.synced
  cases h.leadsOn with
  | checkWrite hl =>
    simp only [micro, checkWrite, raise]
    split
    · exact h.go hsync rfl rfl ho
    · by_cases ha : s.lcs = .active
      · have hrest : AtRest s := ⟨hsync, by simp [ha, Lifecycle.settled], by simp [ha], fun _ => ho,
          h.placed.opened_closed⟩
        simp only [ha]
        exact ⟨.idle, hrest.placed_respond h.placed.busy _ _⟩
      · have hc : s.lcs = .configuring := by cases hc : s.lcs <;> simp [hc, Lifecycle.sending] at hl ha ⊢
        simp only [hc]
        exact ⟨.idle, hsync.placed_giveUp (.inr hc) ho h.placed.busy _ _⟩

/-! ### The steps of a transaction -/

/-- An event that leads to the planned stage, and the sequencer in its phase. -/
theorem Planned.enter {e : Event} (owner : Guard) (h : Planned m rest g g' s.lcs s) (hm : ∀ mode, m ≠ .acquire mode)
    (hp : protocolStep (some (true, g)) e = some (true, g')) (hg : owner = .framer ↔ ghOf g'.phase = true) :
    (Progress.go { setPhase g'.phase (emit e s) with guard := owner } []).Keeps InPlace rest :=
  h.go (h.placed.synced.enter owner (by rw [h.opened hm, hp]) hg) rfl rfl (h.opened hm)

theorem keeps_requestGuard (h : Planned .requestGuard rest g g' l' s) :
    (micro .requestGuard s).Keeps InPlace rest := by
  cases h.leadsOn with
  | requestGuard hl =>
    simp only [micro, requestGuard]
    split
    · exact h.enter s.guard (by simp) rfl h.placed.synced.guard_iff
    · trivial

theorem keeps_takeGrant (h : Planned .takeGrant rest g g' l' s) : (micro .takeGrant s).Keeps InPlace rest := by
  cases h.leadsOn with
  | takeGrant hl =>
    simp only [micro, takeGrant]
    split
    · exact h.enter .framer (by simp) rfl (by decide)
    · trivial

theorem keeps_assertSelect (h : Planned .assertSelect rest g g' l' s) :
    (micro .assertSelect s).Keeps InPlace rest := by
  cases h.leadsOn with
  | assertSelect hl =>
    simp only [micro, assertSelect]
    split
    · exact h.enter s.guard (by simp) rfl h.placed.synced.guard_iff
    · trivial

theorem keeps_deassertSelect (h : Planned .deassertSelect rest g g' l' s) :
    (micro .deassertSelect s).Keeps InPlace rest := by
  simp only [micro, deassertSelect]
  split
  · cases h.leadsOn with
    | deassertSelect_sent n hl hn => exact h.enter s.guard (by simp) (if_pos hn) h.placed.synced.guard_iff
    | deassertSelect_failed hl => exact h.enter s.guard (by simp) rfl h.placed.synced.guard_iff
  · trivial

theorem keeps_releaseGuard (h : Planned .releaseGuard rest g g' l' s) :
    (micro .releaseGuard s).Keeps InPlace rest := by
  have ho := h.opened (by simp)
  cases h.leadsOn with
  | releaseGuard hl =>
    simp only [micro, releaseGuard]
    split
    · have hfree := h.placed.synced.enter (e := .guardRelease) .free (by rw [ho]; rfl) (by decide)
      exact h.go (hfree.of_same ⟨rfl, rfl, rfl, Iff.rfl⟩ rfl rfl rfl) rfl rfl ho
    · trivial

/-! ### The units -/

/-- `t` is `s` after the unit was written or tried, as far as the invariant speaks of it (R125). -/
structure UnitSent (unit : List Byte) (ok : Bool) (s t : State) : Prop where
  trace : t.trace = s.trace ++ [.write unit ok]
  flags : SameFlags s t
  len : t.len = s.len
  lcs : t.lcs = s.lcs
  busy : t.busy = s.busy
  opened : t.opened = s.opened

theorem unitSent_writeStaging (s : State) :
    UnitSent (memoryOrder s.stg) (drawWrite s).1 s (writeStaging s) := by
  refine ⟨?_, ⟨?_, ?_, ?_, ?_⟩, ?_, ?_, ?_, ?_⟩ <;> simp

theorem unitSent_sendHeaderUnit (s : State) :
    UnitSent (memoryOrder s.stg) (drawWrite s).1 s (sendHeaderUnit s) := by
  refine ⟨?_, ⟨?_, ?_, ?_, ?_⟩, ?_, ?_, ?_, ?_⟩ <;> simp

/-- The stage after a unit that was written, with `n` 1-byte units in all, or that failed (R41, R130). -/
def unitStage (ok : Bool) (n : Nat) : Stage := if ok then .sent n else .failed

theorem unitStage_phase (ok : Bool) (n : Nat) : (unitStage ok n).phase = .selected := by cases ok <;> rfl

section
variable {unit : List Byte} {ok : Bool} {n : Nat}

theorem UnitSent.synced (hu : UnitSent unit ok s t) (h : Synced g s) (ho : s.opened = true) (hg : g.phase = .selected)
    (hp : protocolStep (some (true, g)) (.write unit ok) = some (true, unitStage ok n)) :
    Synced (unitStage ok n) t :=
  h.event (by rw [hu.opened, ho, hp]) (by rw [hg, unitStage_phase]) hu.flags (hu.len ▸ h.len_legal) hu.trace

/-- A unit that is the last of its transaction, written or not: what is planned for a failed one does. -/
theorem Planned.lastUnit (h : Planned m rest g .failed s.lcs s) (hu : UnitSent unit ok s t)
    (ho : s.opened = true) (hg : g.phase = .selected)
    (hp : protocolStep (some (true, g)) (.write unit ok) = some (true, unitStage ok n))
    (hn : ok = true → wholeCount n = true) : (Progress.go t []).Keeps InPlace rest := by
  refine ⟨unitStage ok n, .of_held (hu.synced h.placed.synced ho hg hp) (hu.lcs ▸ h.leadsOn.held_after) (hu.opened.trans ho)
    (hu.busy.trans h.placed.busy) ?_ fun hh => absurd hh (head_ne_writeData h.leads (by simp))⟩
  rw [List.nil_append, hu.lcs]
  cases ok with
  | false => exact h.leads
  | true => exact leadsToResponse_sent h.leads (hn rfl)

/-- A unit that was written and that the data loop goes on after (R93, R94). -/
theorem Planned.nextUnit (h : Planned m rest g .failed s.lcs s) (hu : UnitSent unit true s t) (ho : s.opened = true)
    (hg : g.phase = .selected) (hp : protocolStep (some (true, g)) (.write unit true) = some (true, .sent n))
    (hsend : s.lcs.sending = true) (hcur : t.cur = 2 * n + 1) (hlt : t.cur < s.len) :
    (Progress.go t [.writeData]).Keeps InPlace rest := by
  refine ⟨.sent n, .of_held (hu.synced h.placed.synced ho hg hp) (hu.lcs ▸ h.leadsOn.held_after) (hu.opened.trans ho)
    (hu.busy.trans h.placed.busy) ?_ fun _ => ⟨n, rfl, hcur, hu.len ▸ hlt⟩⟩
  simp [leadsToResponse, afterMicro, hu.lcs, hsend, h.leads]

end

theorem keeps_writeStaged (h : Planned .writeStaged rest g g' l' s) : (micro .writeStaged s).Keeps InPlace rest := by
  cases h.leadsOn with
  | writeStaged hl =>
    simp only [micro, writeStaged]
    split
    · exact h.lastUnit (n := 0) (unitSent_writeStaging s) (h.opened (by simp)) rfl rfl fun _ => rfl
    · trivial

theorem keeps_writeHeader (h : Planned .writeHeader rest g g' l' s) : (micro .writeHeader s).Keeps InPlace rest := by
  have ho := h.opened (by simp)
  have hu := unitSent_sendHeaderUnit s
  cases h.leadsOn with
  | writeHeader hl =>
    simp only [micro, writeHeader, sendHeaderUnit_ok]
    split
    · cases hok : (drawWrite s).1 <;> rw [hok] at hu
      · exact h.lastUnit (n := 0) hu ho rfl rfl fun _ => rfl
      · refine h.nextUnit (n := 0) hu ho rfl rfl hl (sendHeaderUnit_cur s) ?_
        rw [sendHeaderUnit_cur]
        rcases h.placed.synced.len_legal with hlen | hlen <;> omega
    · trivial

/-- A byte with a position that no cell fills is the last of its frame (R95). -/
theorem assembleByte_not_eight {fb : Store} {len i : Nat} (h : (assembleByte fb len i).2 ≠ 8) : len ≤ i + 2 := by
  by_contra hlt
  simp [assembleByte, show i + 1 < len by omega, show i + 2 < len by omega] at h

/-- R93 to R95: the loop goes on after a full byte, with the cursor in range, and ends after a whole frame or a failure. -/
theorem keeps_writeData (h : Planned .writeData rest g g' l' s) : (micro .writeData s).Keeps InPlace rest := by
  obtain ⟨n, rfl, hcur, hlt⟩ := h.placed.cursor rfl
  obtain ⟨hsend, rfl, rfl⟩ : s.lcs.sending = true ∧ g' = .failed ∧ l' = s.lcs := by
    cases h.leadsOn with
    | writeData _ hl => exact ⟨hl, rfl, rfl⟩
  have ho := h.opened (by simp)
  rw [micro_writeData h.placed.synced.ts_eq (b := (assembleByte s.fb s.len s.cur).1)
    (nb := (assembleByte s.fb s.len s.cur).2) rfl]
  by_cases hgo : ((drawWrite s).1 && (assembleByte s.fb s.len s.cur).2 == 8) = true
  · simp only [hgo, if_true]
    obtain ⟨hok, hfull⟩ : (drawWrite s).1 = true ∧ (assembleByte s.fb s.len s.cur).2 = 8 := by simpa using hgo
    have hnext := assembleByte_eight _ _ _ hfull
    rw [hok]
    exact h.nextUnit (n := n + 1) ⟨rfl, ⟨rfl, rfl, rfl, Iff.rfl⟩, rfl, rfl, rfl, rfl⟩ ho rfl rfl hsend
      (by simp only [hcur]; omega) hnext
  · simp only [hgo, Bool.false_eq_true, if_false]
    refine h.lastUnit (n := n + 1) ⟨rfl, ⟨rfl, rfl, rfl, Iff.rfl⟩, rfl, rfl, rfl, rfl⟩ ho rfl rfl fun hok => ?_
    have hlast := assembleByte_not_eight (fb := s.fb) (len := s.len) (i := s.cur) (by simpa [hok] using hgo)
    have hcount : n + 1 = 32 ∨ n + 1 = 48 := by rcases h.placed.synced.len_legal with hl | hl <;> omega
    rcases hcount with hcount | hcount <;> simp [hcount, wholeCount]

/-- Every step of the framer keeps the remaining steps in their place. -/
theorem InPlace.micro (h : InPlace (m :: rest) s) : (micro m s).Keeps InPlace rest := by
  obtain ⟨g, h⟩ := h
  rcases leadsToResponse_cons (h.leads (by simp)) with ⟨st, b, rfl, rfl, -⟩ | ⟨st, b, rfl, rfl, rfl, -⟩ |
    ⟨⟨g', l'⟩, hq, -, hl⟩
  · exact keeps_respond h
  · exact keeps_giveUp h
  · have hp : Planned m rest g g' l' s := ⟨h, leadsOn_of_afterMicro hq, hl⟩
    cases hp.leadsOn with
    | acquire => exact keeps_acquire hp
    | checkWrite => exact keeps_checkWrite hp
    | requestGuard => exact keeps_requestGuard hp
    | takeGrant => exact keeps_takeGrant hp
    | assertSelect => exact keeps_assertSelect hp
    | deassertSelect_sent => exact keeps_deassertSelect hp
    | deassertSelect_failed => exact keeps_deassertSelect hp
    | releaseGuard => exact keeps_releaseGuard hp
    | writeStaged => exact keeps_writeStaged hp
    | writeHeader => exact keeps_writeHeader hp
    | writeData => exact keeps_writeData hp
    | clearStore hc => exact hp.quiet (by simp) ⟨rfl, rfl, rfl, Iff.rfl⟩ rfl rfl rfl rfl hc
    | _ => exact hp.quiet (by simp) ⟨rfl, rfl, rfl, Iff.rfl⟩ rfl rfl rfl rfl rfl

end

end Sys2Proof.Machine
end

section
/-! SUPPORT. Every step of every agent keeps the invariant: the other agents' moves, a request taken up, one that goes on,
and the reset. -/

namespace Sys2Proof.Machine

/-- What the other agents and the steps put aside hold does not matter to the steps carried out, but for the framer's
own hold of the lock. -/
theorem InPlace.outside {steps : List Micro} {s : State} (h : InPlace steps s) (turns : List Turn)
    (pending : List Micro) {owner : Guard} (ho : owner = .framer ↔ s.guard = .framer) :
    InPlace steps { s with agenda := turns, guard := owner, pending := pending } := by
  obtain ⟨g, h⟩ := h
  exact ⟨g, h.synced.of_same ⟨rfl, rfl, rfl, ho⟩ rfl rfl rfl, h.len_default, h.busy_iff, h.idle_between, h.leads,
    h.cursor, h.opened_held, h.opened_closed⟩

theorem InPlace.otherTakes {steps : List Micro} {s : State} (h : InPlace steps s) : InPlace steps (otherTakes s) := by
  obtain ⟨owner, e, ho⟩ := otherTakes_eq s
  exact e ▸ h.outside s.agenda s.pending ho

theorem InPlace.otherReleases {steps : List Micro} {s : State} (h : InPlace steps s) :
    InPlace steps (otherReleases s) := by
  obtain ⟨owner, e, ho⟩ := otherReleases_eq s
  exact e ▸ h.outside s.agenda s.pending ho

theorem otherTakes_pending (s : State) : (otherTakes s).pending = s.pending := by
  obtain ⟨_, e, -⟩ := otherTakes_eq s
  rw [e]

theorem otherReleases_pending (s : State) : (otherReleases s).pending = s.pending := by
  obtain ⟨_, e, -⟩ := otherReleases_eq s
  rw [e]

theorem State.inv_iff (s : State) : s.Inv ↔ InPlace s.pending s :=
  ⟨fun h => ⟨_, h.placed⟩, fun ⟨_, h⟩ => h.inv rfl⟩

/-- Carrying out steps that are in their place ends in a state that meets the invariant. -/
theorem InPlace.run {steps : List Micro} {s : State} (h : InPlace steps s) (hp : s.pending = []) :
    (run steps s).Inv := by
  obtain ⟨rest, t, ⟨ht, hpt⟩, e⟩ := settle_keeps (P := fun steps s => InPlace steps s ∧ s.pending = [])
    (fun turns h => ⟨h.1.outside turns _ Iff.rfl, h.2⟩)
    (fun {_ s} h => ⟨h.1.otherTakes, (otherTakes_pending s).trans h.2⟩)
    (fun {_ s} h => ⟨h.1.otherReleases, (otherReleases_pending s).trans h.2⟩)
    (fun {m rest s} h => by
      have hk := h.1.micro
      have hp := kept_micro m s
      cases hm : Machine.micro m s <;> rw [hm] at hk hp
      · exact ⟨hk, (hp _ rfl).pending.trans h.2⟩
      · exact ⟨hk, (hp _ rfl).pending.trans h.2⟩
      · trivial) (fuelFor s) ⟨h, hp⟩
  rw [Machine.run, e, State.inv_iff, suspend_pending, hpt, List.append_nil]
  exact ht.outside t.agenda (rest ++ t.pending) Iff.rfl

/-! ### Requests -/

theorem leads_transmitSteps : leadsToResponse transmitSteps (.idle, .active) = true := rfl

theorem leads_brightnessSteps (c : Config) (duty : BitVec 8) :
    leadsToResponse (brightnessSteps c duty) (.idle, .active) = true := rfl

theorem leads_initSteps (c : Config) (mode : BitVec 8) :
    leadsToResponse (initSteps c mode) (.idle, .uninitialized) = true := rfl

/-- What a request comes to: an answer at once, with no more than the store changed; the release of the transport; or
steps that lead to its response. -/
theorem exec_request_cases {i : Instr} (hi : i.isRequest = true) (s : State) :
    (∃ status bit fb, exec i s = .next (respond status bit { s with fb := fb })) ∨
    (s.lcs = .active ∧
      exec i s = .next (respond .ok false { forgetStore (closeTransport s) with lcs := .closed })) ∨
    (∃ steps, exec i s = .next (run steps s) ∧ leadsToResponse steps (.idle, s.lcs) = true ∧
      steps.head? ≠ some .giveUp) := by
  have hanswer (status : Status) : ∃ status' bit fb,
      Host.Outcome.next (φ := Fault) (ρ := Refusal) (answer status s) =
        .next (respond status' bit { s with fb := fb }) := ⟨status, false, s.fb, rfl⟩
  cases i
  case init mode =>
    simp only [exec, execInit]
    split
    next hl => exact .inr (.inr ⟨_, rfl, hl ▸ leads_initSteps s.cfg mode, by simp [initSteps]⟩)
    next => exact .inl (hanswer _)
  case transmitFrame =>
    simp only [exec, execTransmitFrame]
    split
    next hl => exact .inr (.inr ⟨_, rfl, hl ▸ leads_transmitSteps, by simp [transmitSteps, frameSteps, transactionSteps]⟩)
    next => exact .inl (hanswer _)
  case setBrightness duty =>
    simp only [exec, execSetBrightness]
    split
    next hl => exact .inr (.inr ⟨_, rfl, hl ▸ leads_brightnessSteps s.cfg duty,
      by simp [brightnessSteps, commandSteps, transactionSteps]⟩)
    next => exact .inl (hanswer _)
  case close =>
    simp only [exec, execClose]
    split
    next hl => exact .inr (.inl ⟨hl, rfl⟩)
    next => exact .inl (hanswer .ok)
  case setCell a b v =>
    simp only [exec, execSetCell]
    split
    · split
      · exact .inl ⟨_, _, _, rfl⟩
      · exact .inl (hanswer .ok)
    · exact .inl (hanswer _)
  case getCell a b =>
    simp only [exec, execGetCell]
    split
    · split
      · exact .inl ⟨_, _, s.fb, rfl⟩
      · exact .inl (hanswer .ok)
    · exact .inl (hanswer _)
  case clear =>
    simp only [exec, execClear]
    split
    · exact .inl ⟨_, _, _, rfl⟩
    · exact .inl (hanswer _)
  case reserved0 | reserved8 | reserved9 | reservedA | reservedB | reservedC | reservedD | reservedE | reservedF =>
    exact .inl (hanswer .illegalRequest)
  all_goals cases hi

theorem AtRest.setFb {s : State} (h : AtRest s) (fb : Store) : AtRest { s with fb := fb } :=
  ⟨h.synced.of_same ⟨rfl, rfl, rfl, Iff.rfl⟩ rfl rfl rfl, h.settled, h.len_default, h.opened_active, h.opened_closed⟩

/-- R112: the transport released in `Active`. -/
theorem AtRest.close {s : State} (h : AtRest s) (ha : s.lcs = .active) :
    AtRest { forgetStore (closeTransport s) with lcs := .closed } where
  synced := h.synced.event (e := .closeCall) (by rw [h.opened_active ha]; rfl) rfl ⟨rfl, rfl, rfl, Iff.rfl⟩
    h.synced.len_legal rfl
  settled := rfl
  len_default hu := by cases hu
  opened_active hn := by cases hn
  opened_closed _ := rfl

/-- Between requests, with the port free and no steps put aside, the block meets the invariant. -/
theorem AtRest.inv {s : State} (h : AtRest s) (hb : s.busy = false) (hp : s.pending = []) : s.Inv :=
  (h.placed_nil hb).inv hp

/-- A request carried out on a block at rest (R131). -/
theorem AtRest.exec {s t : State} {i : Instr} (h : AtRest s) (hb : s.busy = true) (hp : s.pending = [])
    (hi : i.isRequest = true) (he : exec i s = .next t) : t.Inv := by
  rcases exec_request_cases hi s with ⟨status, bit, fb, e⟩ | ⟨ha, e⟩ | ⟨steps, e, hleads, hgive⟩
  all_goals
    rw [e] at he
    cases he
  · exact ((h.setFb fb).respond status bit).inv rfl hp
  · exact ((h.close ha).respond .ok false).inv rfl hp
  · exact InPlace.run ⟨_, h.placed hb hleads hgive⟩ hp

theorem AtRest.accept {s : State} (h : AtRest s) (rest : List Word) : AtRest (accept rest s) := by
  obtain ⟨turns, e⟩ := dropTurn_eq s
  rw [Machine.accept, e]
  exact ⟨h.synced.of_same ⟨rfl, rfl, rfl, Iff.rfl⟩ rfl rfl rfl, h.settled, h.len_default, h.opened_active,
    h.opened_closed⟩

theorem accept_pending (rest : List Word) (s : State) : (accept rest s).pending = s.pending := by
  obtain ⟨turns, e⟩ := dropTurn_eq s
  rw [accept, e]

/-! ### The moves -/

theorem State.Inv.atRest {s : State} (h : s.Inv) (hp : s.pending = []) : AtRest s :=
  (hp ▸ h.placed : Placed [] s.stage s).atRest

theorem State.Inv.setAgenda {s : State} (h : s.Inv) (turns : List Turn) : State.Inv { s with agenda := turns } :=
  (State.inv_iff _).mpr (((State.inv_iff s).mp h).outside turns s.pending Iff.rfl)

theorem State.Inv.otherTakes {s : State} (h : s.Inv) : (otherTakes s).Inv :=
  (State.inv_iff _).mpr ((otherTakes_pending s).symm ▸ ((State.inv_iff s).mp h).otherTakes)

theorem State.Inv.otherReleases {s : State} (h : s.Inv) : (otherReleases s).Inv :=
  (State.inv_iff _).mpr ((otherReleases_pending s).symm ▸ ((State.inv_iff s).mp h).otherReleases)

/-- The framer's move keeps the invariant (R131). -/
theorem State.Inv.framerMove {s t : State} (h : s.Inv) (he : framerMove s = .next t) : t.Inv := by
  have hdrop : State.Inv (dropTurn s) := by
    obtain ⟨turns, e⟩ := dropTurn_eq s
    exact e ▸ h.setAgenda turns
  unfold Machine.framerMove at he
  split at he
  next hp =>
    split at he
    · cases he
      exact hdrop
    · split at he
      · cases he
        exact hdrop
      next w rest _ =>
        exact ((h.atRest hp).accept rest).exec rfl ((accept_pending rest s).trans hp) (decodeRequest_isRequest w) he
  next =>
    cases he
    exact (((State.inv_iff s).mp h).outside s.agenda [] Iff.rfl).run rfl

/-- The reset input on an idle block keeps the invariant (R155). -/
theorem State.Inv.applyReset {s : State} (h : s.Inv) (hb : s.busy = false) : (applyReset s).Inv := by
  have hp : s.pending = [] := by simpa [hb] using h.busy_iff
  have hs := (h.atRest hp).synced
  have hsync : Synced .idle (Machine.applyReset s) := ⟨.inr rfl, rfl, rfl, rfl, hs.guard_iff, hs.protocol⟩
  have hrest : AtRest (Machine.applyReset s) := ⟨hsync, rfl, fun _ => rfl, nofun, nofun⟩
  exact hrest.inv rfl rfl

/-- Every step of every agent keeps the invariant. -/
theorem State.Inv.step {s t : State} (h : s.Inv) (he : step s = .next t) : t.Inv := by
  unfold Machine.step at he
  split at he
  next turns _ =>
    cases he
    exact (h.setAgenda turns).otherTakes
  next turns _ =>
    cases he
    exact (h.setAgenda turns).otherReleases
  next turns _ =>
    cases he
    exact h.setAgenda turns
  next turns _ =>
    split at he
    · cases he
    next hb =>
      cases he
      exact (h.setAgenda turns).applyReset (by simpa using hb)
  all_goals exact h.framerMove he

end Sys2Proof.Machine
end

section
/-! SUPPORT. The invariant: it holds after reset and every step keeps it. -/

namespace Sys2Proof.Machine

theorem reset_atRest : AtRest State.reset where
  synced := ⟨.inr rfl, rfl, rfl, rfl, by decide, rfl⟩
  settled := rfl
  len_default _ := rfl
  opened_active := nofun
  opened_closed _ := rfl

/-- Settles O43: the invariant is that the remaining steps have their place, which each agent's moves keep. -/
theorem everyStepKeepsTheInvariant : Obligations.EveryStepKeepsTheInvariant := fun _ _ h he => h.step he

/-- Settles O44: the reset state is one between two requests. -/
theorem resetSatisfiesTheInvariant : Obligations.ResetSatisfiesTheInvariant := reset_atRest.inv rfl rfl

end Sys2Proof.Machine
end

section
/-! SUPPORT. What requests other than the named ones leave of the store and the configuration registers (R13, R17, R18). -/

namespace Sys2Proof.Machine

/-- The two states agree on the store, the mode, the length and the lifecycle state. -/
structure SameStore (s t : State) : Prop where
  fb : t.fb = s.fb
  mode : t.mode = s.mode
  len : t.len = s.len
  lcs : t.lcs = s.lcs

theorem SameStore.refl (s : State) : SameStore s s := ⟨rfl, rfl, rfl, rfl⟩

theorem SameStore.trans {s t u : State} (h : SameStore s t) (k : SameStore t u) : SameStore s u :=
  ⟨k.fb.trans h.fb, k.mode.trans h.mode, k.len.trans h.len, k.lcs.trans h.lcs⟩

/-- A step that leaves the store alone: one that belongs to no `INIT`. A failed write is raised without giving anything
back only in `Active` (R110). -/
def Micro.keepsStore (l : Lifecycle) : Micro → Bool
  | .acquire _ => false
  | .enterConfiguring => false
  | .clearStore => false
  | .enterActive => false
  | .giveUp => false
  | .checkWrite => l == .active
  | _ => true

/-- Steps that leave the store alone, in a state with the store of `s`. -/
structure StoreKept (s : State) (steps : List Micro) (t : State) : Prop where
  same : SameStore s t
  steps : steps.all (Micro.keepsStore s.lcs) = true

theorem sameStore_writeStaging (s : State) : SameStore s (writeStaging s) := by constructor <;> simp

theorem sameStore_sendHeaderUnit (s : State) : SameStore s (sendHeaderUnit s) := by constructor <;> simp

theorem sameStore_sendAccumulator (s : State) : SameStore s (sendAccumulator s) := by
  unfold sendAccumulator
  dsimp only
  split <;> constructor <;> simp

section
variable {s t u : State} {m : Micro} {rest more : List Micro}

theorem StoreKept.go (h : StoreKept s (m :: rest) t) (hs : SameStore t u)
    (hmore : more.all (Micro.keepsStore s.lcs) = true) : (Progress.go u more).Keeps (StoreKept s) rest := by
  have hrest := h.steps
  simp only [List.all_cons, Bool.and_eq_true] at hrest
  exact ⟨h.same.trans hs, by rw [List.all_append, hmore, hrest.2]; rfl⟩

/-- Every step that leaves the store alone does so, and so do the steps it puts before the others. -/
theorem StoreKept.micro (h : StoreKept s (m :: rest) t) : (micro m t).Keeps (StoreKept s) rest := by
  have hm : m.keepsStore s.lcs = true := by
    have hsteps := h.steps
    simp only [List.all_cons, Bool.and_eq_true] at hsteps
    exact hsteps.1
  have same {u : State} (hfb : u.fb = t.fb) (hmode : u.mode = t.mode) (hlen : u.len = t.len) (hlcs : u.lcs = t.lcs) :
      (Progress.go u []).Keeps (StoreKept s) rest := h.go ⟨hfb, hmode, hlen, hlcs⟩ rfl
  cases m
  case acquire | enterConfiguring | clearStore | enterActive | giveUp => cases hm
  case stageCommand | stageCommonsMode | stageHeader | respond => exact same rfl rfl rfl rfl
  case requestGuard | takeGrant | assertSelect | deassertSelect | releaseGuard =>
    simp only [Machine.micro, Machine.requestGuard, Machine.takeGrant, Machine.assertSelect, Machine.deassertSelect,
      Machine.releaseGuard]
    split
    · exact same rfl rfl rfl rfl
    · trivial
  case checkWrite =>
    have hactive : t.lcs = .active := h.same.lcs.trans (by simpa [Micro.keepsStore] using hm)
    simp only [Machine.micro, Machine.checkWrite, raise, hactive]
    split
    · exact same rfl rfl rfl rfl
    · exact ⟨h.same, rfl⟩
  case writeStaged =>
    simp only [Machine.micro, Machine.writeStaged]
    split
    · exact h.go (sameStore_writeStaging t) rfl
    · trivial
  case writeHeader =>
    simp only [Machine.micro, Machine.writeHeader]
    split
    · exact h.go (sameStore_sendHeaderUnit t) (by split <;> rfl)
    · trivial
  case writeData =>
    simp only [Machine.micro, Machine.writeData]
    split
    · exact h.go (.trans (t := loadAccumulator t) ⟨rfl, rfl, rfl, rfl⟩ (sameStore_sendAccumulator _)) (by split <;> rfl)
    · trivial
  case sendHeader data =>
    simp only [Machine.micro, Machine.sendHeader]
    split
    · exact h.go (.trans (t := stageWord (headerWord t.cfg data) t) ⟨rfl, rfl, rfl, rfl⟩ (sameStore_sendHeaderUnit _)) rfl
    · trivial
  case sendByte byte bits =>
    simp only [Machine.micro, Machine.sendByte]
    split
    · exact h.go (.trans (t := { t with acc := byte, nb := bits }) ⟨rfl, rfl, rfl, rfl⟩ (sameStore_sendAccumulator _)) rfl
    · trivial

theorem StoreKept.others (h : StoreKept s rest t) (turns : List Turn) (owner : Guard) :
    StoreKept s rest { t with agenda := turns, guard := owner } :=
  ⟨h.same.trans ⟨rfl, rfl, rfl, rfl⟩, h.steps⟩

theorem StoreKept.otherTakes (h : StoreKept s rest t) : StoreKept s rest (otherTakes t) := by
  obtain ⟨owner, e, -⟩ := otherTakes_eq t
  exact e ▸ h.others t.agenda owner

theorem StoreKept.otherReleases (h : StoreKept s rest t) : StoreKept s rest (otherReleases t) := by
  obtain ⟨owner, e, -⟩ := otherReleases_eq t
  exact e ▸ h.others t.agenda owner

end

/-- Steps that leave the store alone do so however the agents' moves interleave. -/
theorem sameStore_run {steps : List Micro} {s : State} (h : steps.all (Micro.keepsStore s.lcs) = true) :
    SameStore s (run steps s) := by
  obtain ⟨rest, t, ht, e⟩ := settle_keeps (P := StoreKept s) (fun turns h => h.others turns _) StoreKept.otherTakes
    StoreKept.otherReleases StoreKept.micro (fuelFor s) ⟨.refl s, h⟩
  rw [run, e]
  exact ht.same.trans ⟨rfl, rfl, rfl, rfl⟩

theorem sameStore_answer (status : Status) (s : State) : SameStore s (answer status s) := ⟨rfl, rfl, rfl, rfl⟩

theorem sameStore_command {opcode : BitVec 8} {s t : State} (he : command opcode s = .next t) : SameStore s t := by
  unfold command at he
  split at he <;> cases he
  exact sameStore_run rfl

theorem sameStore_frameUnit {unit : Micro} {s t : State} (hunit : unit.keepsStore s.lcs = true)
    (he : frameUnit unit s = .next t) : SameStore s t := by
  unfold frameUnit at he
  split at he <;> cases he
  exact sameStore_run (by simp [hunit])

/-- The requests that write the store (R13). -/
def writesStore : Instr → Bool
  | .setCell _ _ _ => true
  | .clear => true
  | .init _ => true
  | .close => true
  | _ => false

/-- Every other instruction leaves the store, the mode and the length alone. -/
theorem exec_sameStore {i : Instr} {s t : State} (hi : writesStore i = false) (he : exec i s = .next t) :
    SameStore s t := by
  cases i
  case init | close | setCell | clear => cases hi
  case getCell a b =>
    simp only [exec, execGetCell] at he
    split at he
    · split at he <;> cases he <;> exact ⟨rfl, rfl, rfl, rfl⟩
    · cases he
      exact sameStore_answer _ s
  case transmitFrame =>
    simp only [exec, execTransmitFrame] at he
    split at he <;> cases he
    next ha => exact sameStore_run (by rw [ha]; rfl)
    next => exact sameStore_answer _ s
  case setBrightness duty =>
    simp only [exec, execSetBrightness] at he
    split at he <;> cases he
    next ha => exact sameStore_run (by rw [ha]; rfl)
    next => exact sameStore_answer _ s
  case reserved0 | reserved8 | reserved9 | reservedA | reservedB | reservedC | reservedD | reservedE | reservedF =>
    cases he
    exact sameStore_answer _ s
  case hdrw | datb | datbLast => exact sameStore_frameUnit rfl he
  all_goals exact sameStore_command he

/-- Of the requests that write the store, `INIT` alone writes the mode and the length (R17, R18). -/
theorem exec_sameConfig {i : Instr} {s t : State} (hi : ∀ mode, i ≠ .init mode) (he : exec i s = .next t) :
    t.mode = s.mode ∧ t.len = s.len := by
  cases hw : writesStore i
  case false =>
    have h := exec_sameStore hw he
    exact ⟨h.mode, h.len⟩
  case true =>
    cases i
    case init mode => exact absurd rfl (hi mode)
    case close =>
      simp only [exec, execClose] at he
      split at he <;> cases he <;> exact ⟨rfl, rfl⟩
    case setCell a b v =>
      simp only [exec, execSetCell] at he
      split at he
      · split at he <;> cases he <;> exact ⟨rfl, rfl⟩
      · cases he
        exact ⟨rfl, rfl⟩
    case clear =>
      simp only [exec, execClear] at he
      split at he <;> cases he <;> exact ⟨rfl, rfl⟩
    all_goals cases hw

/-- Settles O45: the other requests are steps that leave the store alone, or an answer. -/
theorem onlyTheNamedRequestsWriteTheStoreAndTheMode : Obligations.OnlyTheNamedRequestsWriteTheStoreAndTheMode := by
  intro s t i he
  constructor
  · intro hfb
    have hw : writesStore i = true := by
      by_contra hw
      exact hfb (exec_sameStore (Bool.eq_false_of_not_eq_true hw) he).fb
    cases i <;> simp [writesStore] at hw ⊢
  · intro hconfig
    by_contra hi
    obtain ⟨hmode, hlen⟩ := exec_sameConfig (fun mode e => hi ⟨mode, e⟩) he
    exact hconfig.elim (· hmode) (· hlen)

end Sys2Proof.Machine
end

section
/-! SUPPORT. Reading back what the encoder built: the fields of the words, the significant bits of a request word, and the
rows of the wire words. -/

namespace Sys2Proof

/-! ### The byte swap and the command word's fields -/

/-- The shift form of R56. -/
theorem bswap16_eq_shifts (w : Word) : bswap16 w = ((w &&& 0x00FF#16) <<< 8) ||| (w >>> 8) := by
  apply BitVec.eq_of_getLsbD_eq; intro i hi
  interval_cases i <;> simp only [bswap16, BitVec.getLsbD_append, BitVec.getLsbD_extractLsb'] <;> simp

theorem bswap16_bswap16 (w : Word) : bswap16 (bswap16 w) = w :=
  calc bswap16 (bswap16 w)
      = (bswap16 w).extractLsb' 0 8 ++ (bswap16 w).extractLsb' 8 8 := rfl
    _ = w.extractLsb' 8 8 ++ w.extractLsb' 0 8 := by rw [bswap16_low, bswap16_high]
    _ = w := word_eq_bytes w

/-- Settles O1, from the bytes of a swapped word. -/
theorem byteSwapExchangesAndIsItsOwnInverse : Obligations.ByteSwapExchangesAndIsItsOwnInverse := fun w =>
  ⟨bswap16_high w, bswap16_low w, bswap16_eq_shifts w, bswap16_bswap16 w⟩

/-- Settles O2. -/
theorem swapThenMemoryOrderPutsTheHighByteFirst : Obligations.SwapThenMemoryOrderPutsTheHighByteFirst :=
  memoryOrder_bswap16

/-- Settles O3: the opcode is read back from its field, so the encoder is injective in it. -/
theorem commandWordHasClassOpcodeAndZeroPadding : Obligations.CommandWordHasClassOpcodeAndZeroPadding := by
  intro c opcode
  refine ⟨encodeCommand_class c opcode, encodeCommand_opcode c opcode, encodeCommand_pad c opcode, fun opcode' h => ?_⟩
  have hfield := congrArg (·.extractLsb' 5 8) h
  simpa using hfield

/-! ### Requests -/

/-- A request is read back from its word (R60, R62). -/
theorem decodeRequest_of_encode {c : Config} {i : Instr} {w : Word} (h : encode c i = .request w) :
    decodeRequest w = i := by
  cases i <;> simp only [encode, Code.request.injEq, reduceCtorEq] at h <;> subst h
  case setCell a b v => simp [decodeRequest, -BitVec.getLsbD_eq_getElem]
  all_goals simp [decodeRequest]

section
variable (w : Word)

/-- The word with the low byte for its one operand (R60: INIT, SET_BRIGHTNESS). -/
theorem requestWord_byte : requestWord (w.extractLsb' 12 4) (0#4 ++ w.extractLsb' 0 8) = w &&& 0xF0FF := by
  apply BitVec.eq_of_getLsbD_eq; intro i hi
  interval_cases i <;> simp only [requestWord, BitVec.getLsbD_append, BitVec.getLsbD_extractLsb'] <;> simp

/-- The word with all its bits in use (R60: SET_CELL). -/
theorem requestWord_cellValue : requestWord (w.extractLsb' 12 4)
    (w.extractLsb' 4 8 ++ w.extractLsb' 1 3 ++ BitVec.ofBool (w.getLsbD 0)) = w &&& 0xFFFF := by
  apply BitVec.eq_of_getLsbD_eq; intro i hi
  interval_cases i <;>
    simp only [requestWord, BitVec.getLsbD_append, BitVec.getLsbD_extractLsb', BitVec.getLsbD_ofBool] <;> simp

/-- The word with the last bit ignored (R60: GET_CELL). -/
theorem requestWord_cell : requestWord (w.extractLsb' 12 4)
    (w.extractLsb' 4 8 ++ w.extractLsb' 1 3 ++ 0#1) = w &&& 0xFFFE := by
  apply BitVec.eq_of_getLsbD_eq; intro i hi
  interval_cases i <;> simp only [requestWord, BitVec.getLsbD_append, BitVec.getLsbD_extractLsb'] <;> simp

/-- The word with no operand (R60, R62). -/
theorem requestWord_bare : requestWord (w.extractLsb' 12 4) 0 = w &&& 0xF000 := by
  apply BitVec.eq_of_getLsbD_eq; intro i hi
  interval_cases i <;> simp only [requestWord, BitVec.getLsbD_append, BitVec.getLsbD_extractLsb'] <;> simp

/-- A request word built from the operation code the word has, and from operands whose bits are the significant ones. -/
theorem request_of_op {w : Word} {n : Nat} {operands : BitVec 12} {mask : Word} (hn : (w.extractLsb' 12 4).toNat = n)
    (hw : requestWord (w.extractLsb' 12 4) operands = w &&& mask)
    (hmask : Machine.significantBits (BitVec.ofNat 4 n) = mask) :
    Code.request (requestWord (BitVec.ofNat 4 n) operands) =
      .request (w &&& Machine.significantBits (w.extractLsb' 12 4)) := by
  have hop : w.extractLsb' 12 4 = BitVec.ofNat 4 n := by rw [← hn, BitVec.ofNat_toNat, BitVec.setWidth_eq]
  rw [← hop] at hmask ⊢
  rw [hw, hmask]

/-- The encoder's word of a request that was read is that word with the ignored bits zero (R60). -/
theorem encode_decodeRequest (c : Config) :
    encode c (decodeRequest w) = .request (w &&& Machine.significantBits (w.extractLsb' 12 4)) := by
  unfold decodeRequest
  split
  case h_2 h | h_8 h => exact request_of_op h (requestWord_byte w) rfl
  case h_4 h => exact request_of_op h (requestWord_cellValue w) rfl
  case h_5 h => exact request_of_op h (requestWord_cell w) rfl
  case h_16 =>
    have h : (w.extractLsb' 12 4).toNat = 15 := by
      have hlt := (w.extractLsb' 12 4).isLt
      simp only [imp_false] at *
      omega
    exact request_of_op h (requestWord_bare w) rfl
  all_goals exact request_of_op ‹_› (requestWord_bare w) rfl

/-- A request does not change with the ignored bits of its word (R60). -/
theorem decodeRequest_significant :
    decodeRequest (w &&& Machine.significantBits (w.extractLsb' 12 4)) = decodeRequest w :=
  decodeRequest_of_encode (encode_decodeRequest w Config.reset)

/-- The operation code is significant whatever it is (R60). -/
theorem significantBits_op (op : BitVec 4) :
    (w &&& Machine.significantBits op).extractLsb' 12 4 = w.extractLsb' 12 4 := by
  have hop : ∀ op, (Machine.significantBits op).extractLsb' 12 4 = BitVec.allOnes 4 := by decide
  rw [BitVec.extractLsb'_and, hop, BitVec.and_allOnes]

end

/-- Settles O5: the two words are equal once their ignored bits are zero, and that changes no request. -/
theorem ignoredRequestBitsChangeNothing : Obligations.IgnoredRequestBitsChangeNothing := by
  intro c w w' h
  have hop : w'.extractLsb' 12 4 = w.extractLsb' 12 4 := by
    rw [← significantBits_op w', ← h, significantBits_op]
  refine ⟨?_, encode_decodeRequest w c⟩
  calc decodeRequest w'
      = decodeRequest (w' &&& Machine.significantBits (w'.extractLsb' 12 4)) := (decodeRequest_significant w').symm
    _ = decodeRequest (w &&& Machine.significantBits (w.extractLsb' 12 4)) := by rw [hop, h]
    _ = decodeRequest w := decodeRequest_significant w

/-! ### Wire words -/

/-- A word with the class identifier of a command and zero padding is read as the row of its opcode (R50, R51). -/
theorem decodeUnit16_encodeCommand (c : Config) (opcode : BitVec 8) :
    decodeUnit16 c (encodeCommand c opcode) = .ok (commandRow c opcode) := by
  simp [decodeUnit16]

theorem decodeUnit16_headerWord {c : Config} (hc : c.cmdClass ≠ c.wrClass) (data : BitVec 6) :
    decodeUnit16 c (headerWord c data) = .ok (.hdrw data) := by
  simp [decodeUnit16, hc.symm]

theorem decodeUnit8_paddedByte (data : BitVec 2) : decodeUnit8 (paddedByte data) = .datbLast data := by
  simp [decodeUnit8]

theorem decodeUnit8_of_notPadded {byte : Byte} (h : byteNotPadded byte = true) : decodeUnit8 byte = .datb byte :=
  if_neg (by simpa [byteNotPadded] using h)

/-- The premise that the wire's words can be told apart, taken apart (N3). -/
theorem Config.distinct_iff (c : Config) : c.distinct = true ↔
    c.wf = true ∧ c.cmdClass ≠ c.wrClass ∧ c.namedOpcodes.Nodup ∧ ∀ o ∈ c.namedOpcodes, c.isPwm o = false := by
  simp [Config.distinct, and_assoc]

/-- The named rows with their opcodes, in the order the decoder tries them (R58). -/
def Config.namedRows (c : Config) : List (BitVec 8 × Instr) :=
  [(c.opcSysDis, .cmdSysDis), (c.comsOpcode c.mode8N, .cmdComs8N), (c.comsOpcode c.mode8P, .cmdComs8P),
    (c.comsOpcode c.mode16N, .cmdComs16N), (c.comsOpcode c.mode16P, .cmdComs16P), (c.opcMaster, .cmdMaster),
    (c.opcRcClk, .cmdRcClk), (c.opcSysEn, .cmdSysEn), (c.opcLedOn, .cmdLedOn), (c.opcBlinkOff, .cmdBlinkOff)]

/-- The first row with the opcode, else the given one. -/
def firstRow (opcode : BitVec 8) (general : Instr) : List (BitVec 8 × Instr) → Instr
  | [] => general
  | (o, i) :: rows => if opcode = o then i else firstRow opcode general rows

theorem firstRow_of_not_mem {opcode : BitVec 8} {general : Instr} {rows : List (BitVec 8 × Instr)}
    (h : opcode ∉ rows.map Prod.fst) : firstRow opcode general rows = general := by
  induction rows with
  | nil => rfl
  | cons row rows ih =>
    rw [List.map_cons, List.mem_cons, not_or] at h
    exact (if_neg h.1).trans (ih h.2)

theorem firstRow_of_mem {opcode : BitVec 8} {general i : Instr} {rows : List (BitVec 8 × Instr)}
    (hrows : (rows.map Prod.fst).Nodup) (h : (opcode, i) ∈ rows) : firstRow opcode general rows = i := by
  induction rows with
  | nil => cases h
  | cons row rows ih =>
    obtain ⟨hrow, hrows⟩ := List.nodup_cons.mp hrows
    cases h with
    | head => exact if_pos rfl
    | tail _ h =>
      have hne : opcode ≠ row.1 := fun e => hrow (e ▸ List.mem_map_of_mem h)
      exact (if_neg hne).trans (ih hrows h)

/-- The decoder's tests are a search through the named rows. -/
theorem commandRow_eq_firstRow (c : Config) (opcode : BitVec 8) : commandRow c opcode =
    firstRow opcode (if c.isPwm opcode then .cmdPwmDuty (opcode.extractLsb' 0 4) else .cmdw opcode) c.namedRows :=
  rfl

/-- An opcode with no named row is a PWM-duty opcode or has the general row alone (R55, R58). -/
theorem commandRow_of_not_mem {c : Config} {opcode : BitVec 8} (h : opcode ∉ c.namedOpcodes) :
    commandRow c opcode = if c.isPwm opcode then .cmdPwmDuty (opcode.extractLsb' 0 4) else .cmdw opcode :=
  firstRow_of_not_mem (rows := c.namedRows) h

theorem commandRow_of_mem {c : Config} {opcode : BitVec 8} {i : Instr} (hnodup : c.namedOpcodes.Nodup)
    (h : (opcode, i) ∈ c.namedRows) : commandRow c opcode = i :=
  firstRow_of_mem (rows := c.namedRows) hnodup h

theorem isPwm_pwmOpcode (c : Config) (duty : BitVec 4) : c.isPwm (pwmOpcode c duty) = true := by
  simp [Config.isPwm, pwmOpcode_high]

/-- Every command row's opcode is read as that row (R55, R58): a named opcode differs from the ones before it, and the
others have no named row. -/
theorem commandRow_commandOpcode {c : Config} {i : Instr} {opcode : BitVec 8} (hc : c.distinct = true)
    (hi : i.wellFormed c = true) (h : Machine.commandOpcode c i = some opcode) : commandRow c opcode = i := by
  obtain ⟨hwf, -, hnodup, hnamed⟩ := c.distinct_iff.mp hc
  cases i <;> simp only [Machine.commandOpcode, Option.some.injEq, reduceCtorEq] at h <;> subst h
  case cmdw opcode =>
    obtain ⟨hmem, hpwm⟩ : opcode ∉ c.namedOpcodes ∧ c.isPwm opcode = false := by
      simpa [Instr.wellFormed, opcodeUnnamed] using hi
    rw [commandRow_of_not_mem hmem, hpwm]
    rfl
  case cmdPwmDuty duty =>
    have hlow : c.opcPwmBase.extractLsb' 0 4 = 0#4 := by
      simpa using (Bool.and_eq_true_iff.mp hwf).2
    have hpwm := isPwm_pwmOpcode c duty
    have hmem : pwmOpcode c duty ∉ c.namedOpcodes := fun hm => by simp [hnamed _ hm] at hpwm
    rw [← Machine.pwmOpcode_eq, commandRow_of_not_mem hmem, if_pos hpwm, pwmOpcode_duty c duty hlow]
  all_goals exact commandRow_of_mem hnodup (by simp [Config.namedRows])

/-- The word of a command row (R51, R55). -/
theorem encode_of_commandOpcode {c : Config} {i : Instr} {opcode : BitVec 8}
    (h : Machine.commandOpcode c i = some opcode) : encode c i = .unit16 (encodeCommand c opcode) := by
  cases i <;> simp only [Machine.commandOpcode, Option.some.injEq, reduceCtorEq] at h <;> subst h
  case cmdPwmDuty duty => rw [← Machine.pwmOpcode_eq]; rfl
  all_goals rfl

/-- A command word is read as its row. -/
theorem decode_encodeCommand {c : Config} {i : Instr} {opcode : BitVec 8} (hc : c.distinct = true)
    (hi : i.wellFormed c = true) (h : Machine.commandOpcode c i = some opcode) :
    decode c (.unit16 (encodeCommand c opcode)) = .ok i := by
  rw [decode, decodeUnit16_encodeCommand, commandRow_commandOpcode hc hi h]

/-- Settles O4: a request by its fields, a command row by its opcode, a unit of a frame by its class or its padding. -/
theorem decodingAnEncodedInstructionGivesItBack : Obligations.DecodingAnEncodedInstructionGivesItBack := by
  intro c i hc hi
  cases hop : Machine.commandOpcode c i with
  | some opcode => rw [encode_of_commandOpcode hop, decode_encodeCommand hc hi hop]
  | none =>
    cases i
    case hdrw data => exact decodeUnit16_headerWord (c.distinct_iff.mp hc).2.1 data
    case datb byte => exact congrArg Except.ok (decodeUnit8_of_notPadded hi)
    case datbLast data => exact congrArg Except.ok (decodeUnit8_paddedByte data)
    case cmdw | cmdSysDis | cmdComs8N | cmdComs8P | cmdComs16N | cmdComs16P | cmdMaster | cmdRcClk | cmdSysEn | cmdLedOn |
      cmdBlinkOff | cmdPwmDuty => cases hop
    all_goals exact congrArg Except.ok (decodeRequest_of_encode (c := c) rfl)

/-- Settles O8: the two bytes are the command word again. -/
theorem commandUnitsReadBackAsTheirRow : Obligations.CommandUnitsReadBackAsTheirRow := by
  intro c i opcode hc hi h
  rw [Machine.commandUnit, Machine.wireUnit, decodeUnitBytes, word_eq_bytes, decode_encodeCommand hc hi h]

/-- Settles O6. -/
theorem foreignWireWordsAreRejected : Obligations.ForeignWireWordsAreRejected := by
  intro c w
  refine ⟨fun hcmd hwr => ?_, fun hcmd hpad => ?_, fun hwr hne haddr => ?_⟩
  · rw [decode, decodeUnit16, if_neg hcmd, if_neg hwr]
  · rw [decode, decodeUnit16, if_pos hcmd, show cmdPad = 0#5 from rfl, if_neg hpad]
  · rw [decode, decodeUnit16, if_neg (hwr ▸ hne.symm), if_pos hwr,
      show startAddr = 0#7 from rfl, if_neg haddr]

/-- The default duty and the lock's name do not matter to the decoder. -/
theorem decode_defaults (duty : BitVec 4) (key : Nat) (code : Code) :
    decode (Config.defaults duty key) code = decode (Config.defaults 0 0) code := by
  cases code <;> rfl

/-- Settles O7, by evaluating the decoder. -/
theorem sampleWordsDecode : Obligations.SampleWordsDecode := by
  refine ⟨by decide, by decide, by decide, by decide, by decide, by decide, fun duty key => ?_⟩
  simp only [decode_defaults duty key]
  decide

/-- Bits [7:4] of a response (R61). -/
theorem responseWord_code (status : Machine.Status) (bit : Bool) :
    (Machine.responseWord status bit).extractLsb' 4 4 = status.code := by
  apply BitVec.eq_of_getLsbD_eq; intro i hi
  interval_cases i <;> simp only [Machine.responseWord, BitVec.getLsbD_append, BitVec.getLsbD_extractLsb'] <;> simp

/-- Bits [3:1] of a response (R61). -/
theorem responseWord_zeros (status : Machine.Status) (bit : Bool) :
    (Machine.responseWord status bit).extractLsb' 1 3 = 0#3 := by
  apply BitVec.eq_of_getLsbD_eq; intro i hi
  interval_cases i <;> simp only [Machine.responseWord, BitVec.getLsbD_append, BitVec.getLsbD_extractLsb'] <;> simp

/-- Bit 0 of a response (R61). -/
theorem responseWord_bit (status : Machine.Status) (bit : Bool) :
    (Machine.responseWord status bit).getLsbD 0 = bit := by
  simp only [Machine.responseWord, BitVec.getLsbD_append, BitVec.getLsbD_ofBool]; simp

/-- Settles O9: the fields are the word's parts, the codes those of R142. -/
theorem responseWordHasCodeZerosAndBit : Obligations.ResponseWordHasCodeZerosAndBit := by
  intro status bit
  refine ⟨?_, responseWord_zeros status bit, responseWord_bit status bit⟩
  rw [responseWord_code]
  cases status <;> rfl


end Sys2Proof
end

section
/-! SUPPORT. The reserved request words (R62, R138). -/

namespace Sys2Proof.Machine

/-- The reserved rows of the opcode table (R62). -/
def reservedRows : List Instr :=
  [.reserved0, .reserved8, .reserved9, .reservedA, .reservedB, .reservedC, .reservedD, .reservedE, .reservedF]

/-- A request word whose operation code is 0, or 8 or more, selects a reserved row (R62). -/
theorem decodeRequest_mem_reservedRows {w : Word}
    (h : w.extractLsb' 12 4 = 0 ∨ 8 ≤ (w.extractLsb' 12 4).toNat) : decodeRequest w ∈ reservedRows := by
  have hop : (w.extractLsb' 12 4).toNat = 0 ∨ 8 ≤ (w.extractLsb' 12 4).toNat := h.imp_left (congrArg BitVec.toNat)
  unfold decodeRequest
  split
  case h_2 | h_3 | h_4 | h_5 | h_6 | h_7 | h_8 => omega
  all_goals decide

/-- A reserved row is answered at once (R138). -/
theorem exec_reservedRow {i : Instr} (hi : i ∈ reservedRows) (s : State) :
    exec i s = .next (answer .illegalRequest s) := by
  simp only [reservedRows, List.mem_cons, List.not_mem_nil, or_false] at hi
  rcases hi with rfl | rfl | rfl | rfl | rfl | rfl | rfl | rfl | rfl <;> rfl

/-- Settles O15: a reserved word selects a reserved row, and each of them is answered at once. -/
theorem reservedWordsAreAnsweredIllegalRequest : Obligations.ReservedWordsAreAnsweredIllegalRequest := fun s =>
  ⟨fun _ hw => exec_reservedRow (decodeRequest_mem_reservedRows hw) s, fun _ hi => exec_reservedRow hi s⟩

end Sys2Proof.Machine
end

section
/-! SUPPORT. With the lock free and no other agent to move, every request runs to its response (R61, R129, R130). -/

namespace Sys2Proof.Machine

/-! ### Steps that are never stuck run to their end -/

/-- When no other agent moves, a property of the remaining steps and the state that every step of the framer keeps, and
that lets none be stuck, holds at the end of the steps. -/
theorem settle_completes {P : List Micro → State → Prop}
    (hmicro : ∀ {m rest s}, P (m :: rest) s → (micro m s).Keeps P rest)
    (hstuck : ∀ {m rest s}, P (m :: rest) s → micro m s ≠ .stuck) :
    ∀ (n : Nat) {steps : List Micro} {s : State}, s.agenda = [] → legalLen s.len → stepsLeft steps s < n →
      P steps s → P [] (settle n steps s) ∧ Kept s (settle n steps s)
  | 0, _, _, _, _, hn, _ => by omega
  | _ + 1, [], s, _, _, _, h => ⟨h, .refl s⟩
  | n + 1, m :: rest, s, ha, hl, hn, h => by
    have next {steps t} (ht : (micro m s).state? = some t) (hlt : legalLen t.len)
        (hlow : stepsLeft steps t < stepsLeft (m :: rest) s) (hP : P steps t) :
        P [] (settle n steps t) ∧ Kept s (settle n steps t) := by
      have hk := kept_micro m s t ht
      obtain ⟨hend, hkept⟩ := settle_completes hmicro hstuck n (hk.agenda.trans ha) hlt (by omega) hP
      exact ⟨hend, hk.trans hkept⟩
    have hP := hmicro h
    have hlow := lowers_micro m rest s hl
    cases hm : micro m s with
    | go t more =>
      rw [hm] at hP hlow
      rw [settle_go ha hm]
      exact next (by rw [hm]; rfl) hlow.2 hlow.1 hP
    | abort t steps =>
      rw [hm] at hP hlow
      rw [settle_abort ha hm]
      exact next (by rw [hm]; rfl) hlow.2 hlow.1 hP
    | stuck => exact absurd hm (hstuck h)

/-! ### A request on its way to its response -/

/-- The sequencer is in phase `p`, with the flags that follow it, and the lock is the framer's where the phase holds it
and free elsewhere (R19). -/
structure InPhase (p : Phase) (s : State) : Prop where
  ts : s.ts = p
  cs : s.cs = csOf p
  gh : s.gh = ghOf p
  guard : s.guard = if ghOf p then .framer else .free

/-- The steps that remain of a request begun in `s₀`: they lead to its response from the phase the sequencer is in, or
none are left and the response is given. The stage is the plan's, which counts on no unit being written, and need not be
the one the record of a state shows. -/
inductive Answering (s₀ : State) : List Micro → State → Prop
  | owed {steps : List Micro} {s : State} (g : Stage) (l : Lifecycle) (hleads : leadsToResponse steps (g, l) = true)
      (hphase : InPhase g.phase s) (hresp : s.responses = s₀.responses) : Answering s₀ steps s
  | given {s : State} (response : Byte) (hphase : InPhase .idle s) (hbusy : s.busy = false)
      (hresp : s.responses = s₀.responses ++ [response]) : Answering s₀ [] s

/-- The two states agree on the bus and on the responses given. -/
structure SameBus (s t : State) : Prop where
  ts : t.ts = s.ts
  cs : t.cs = s.cs
  gh : t.gh = s.gh
  guard : t.guard = s.guard
  responses : t.responses = s.responses

theorem SameBus.refl (s : State) : SameBus s s := ⟨rfl, rfl, rfl, rfl, rfl⟩

theorem SameBus.inPhase {p : Phase} {s t : State} (h : SameBus s t) (hp : InPhase p s) : InPhase p t :=
  ⟨h.ts.trans hp.ts, h.cs.trans hp.cs, h.gh.trans hp.gh, h.guard.trans hp.guard⟩

theorem sameBus_writeStaging (s : State) : SameBus s (writeStaging s) := by constructor <;> simp

theorem sameBus_sendHeaderUnit (s : State) : SameBus s (sendHeaderUnit s) := by constructor <;> simp

section
variable {s₀ s t : State} {m : Micro} {rest : List Micro} {g g' : Stage} {l l' : Lifecycle}

/-- A planned step is enabled in the phase of its stage. -/
theorem LeadsOn.not_stuck (h : LeadsOn l m g g' l') (hp : InPhase g.phase s) : micro m s ≠ .stuck := by
  have hts := hp.ts
  cases h
  case acquire mode hl =>
    simp only [micro]
    rcases acquire_cases mode s with ⟨_, _, e⟩ | ⟨_, _, _, e⟩ | ⟨_, _, _, e⟩ <;> simp [e, raise]
  case checkWrite hl =>
    simp only [micro, Machine.checkWrite, raise]
    split <;> simp
  case takeGrant hl =>
    have hfree : s.guard = .free := hp.guard
    simp [micro, Machine.takeGrant, hts, hfree, Stage.phase]
  all_goals simp [micro, Machine.requestGuard, Machine.assertSelect, Machine.writeStaged, Machine.writeHeader,
    Machine.writeData, Machine.deassertSelect, Machine.releaseGuard, hts, Stage.phase]

theorem Answering.go (hleads : leadsToResponse rest (g', l') = true) (hp : InPhase g'.phase t)
    (hr : t.responses = s₀.responses) : (Progress.go t []).Keeps (Answering s₀) rest :=
  .owed g' l' hleads hp hr

/-- An error raised outside a transaction (R141). -/
theorem Answering.raise (status : Status) (undo : Bool) (hp : InPhase .idle s) (hr : s.responses = s₀.responses) :
    (raise status undo s).Keeps (Answering s₀) rest := by
  cases undo
  · exact .owed .idle .active rfl hp hr
  · exact .owed .idle .configuring rfl hp hr

/-- After a unit written in the data loop or before it, the loop can go on (R93). -/
theorem Answering.loop (hleads : leadsToResponse rest (.failed, l) = true) (hl : l.sending = true)
    (hp : InPhase .selected s) (hr : s.responses = s₀.responses) (goesOn : Bool) :
    (Progress.go s (if goesOn then [.writeData] else [])).Keeps (Answering s₀) rest := by
  cases goesOn
  · exact .owed .failed l hleads hp hr
  · exact .owed (.sent 0) l (by simp [leadsToResponse, afterMicro, hl, hleads]) hp hr

theorem Answering.not_stuck (h : Answering s₀ (m :: rest) s) : micro m s ≠ .stuck := by
  obtain ⟨g, l, hleads, hp, hr⟩ := h
  rcases leadsToResponse_cons hleads with ⟨st, b, rfl, -⟩ | ⟨st, b, rfl, -⟩ | ⟨⟨g', l'⟩, hq, -, -⟩
  · simp [micro]
  · simp [micro]
  · exact (leadsOn_of_afterMicro hq).not_stuck hp

/-- Every step of the framer keeps a request on its way to its one response. -/
theorem Answering.micro (h : Answering s₀ (m :: rest) s) : (micro m s).Keeps (Answering s₀) rest := by
  obtain ⟨g, l, hleads, hp, hr⟩ := h
  rcases leadsToResponse_cons hleads with ⟨st, b, rfl, rfl, rfl, -⟩ | ⟨st, b, rfl, rfl, rfl, -⟩ |
    ⟨⟨g', l'⟩, hq, -, hl⟩
  · exact .given (responseWord st b) ⟨hp.ts, hp.cs, hp.gh, hp.guard⟩ rfl (by simp [hr])
  · exact .owed .idle .active rfl ⟨hp.ts, hp.cs, hp.gh, hp.guard⟩ hr
  · cases leadsOn_of_afterMicro hq
    case acquire mode hu =>
      simp only [Machine.micro]
      rcases acquire_cases mode s with ⟨_, _, e⟩ | ⟨_, _, _, e⟩ | ⟨_, _, _, e⟩
      all_goals rw [e]
      · exact .raise _ _ ⟨hp.ts, hp.cs, hp.gh, hp.guard⟩ hr
      · exact .raise _ _ ⟨hp.ts, hp.cs, hp.gh, hp.guard⟩ hr
      · exact .go hl ⟨hp.ts, hp.cs, hp.gh, hp.guard⟩ hr
    case checkWrite hsend =>
      simp only [Machine.micro, Machine.checkWrite]
      split
      · exact .go hl hp hr
      · exact .raise _ _ hp hr
    case takeGrant | releaseGuard =>
      simp only [Machine.micro, Machine.takeGrant, Machine.releaseGuard]
      split
      · exact .go hl ⟨rfl, rfl, rfl, rfl⟩ hr
      · trivial
    case requestGuard | assertSelect | deassertSelect_sent | deassertSelect_failed =>
      simp only [Machine.micro, Machine.requestGuard, Machine.assertSelect, Machine.deassertSelect]
      split
      · exact .go hl ⟨rfl, rfl, rfl, hp.guard⟩ hr
      · trivial
    case writeStaged hsend =>
      simp only [Machine.micro, Machine.writeStaged]
      split
      · have hsame := sameBus_writeStaging s
        exact .go hl (hsame.inPhase hp) (hsame.responses.trans hr)
      · trivial
    case writeHeader hsend =>
      simp only [Machine.micro, Machine.writeHeader]
      split
      · have hsame := sameBus_sendHeaderUnit s
        exact .loop hl hsend (hsame.inPhase hp) (hsame.responses.trans hr) _
      · trivial
    case writeData n hsend =>
      rw [micro_writeData hp.ts (b := (assembleByte s.fb s.len s.cur).1)
        (nb := (assembleByte s.fb s.len s.cur).2) rfl]
      apply Answering.loop hl hsend
      · exact ⟨hp.ts, hp.cs, hp.gh, hp.guard⟩
      · exact hr
    all_goals exact .go hl ⟨hp.ts, hp.cs, hp.gh, hp.guard⟩ hr

end

/-- Steps that lead to a response, with fuel for them, come to it on a free lock, whatever the environment answers. -/
theorem run_answers {steps : List Micro} {s : State} {l : Lifecycle} (hp : InPhase .idle s) (ha : s.agenda = [])
    (hl : legalLen s.len) (hleads : leadsToResponse steps (.idle, l) = true) (hfuel : weights steps < 192) :
    Answering s [] (run steps s) ∧ Kept s (run steps s) :=
  settle_completes Answering.micro Answering.not_stuck (fuelFor s) ha hl
    ((stepsLeft_le steps s).trans_lt (by unfold fuelFor; omega)) (.owed .idle l hleads hp rfl)

/-! ### Requests -/

theorem sameBus_setFb (fb : Store) (s : State) : SameBus s { s with fb := fb } := ⟨rfl, rfl, rfl, rfl, rfl⟩

theorem sameBus_closed (s : State) : SameBus s { forgetStore (closeTransport s) with lcs := .closed } :=
  ⟨rfl, rfl, rfl, rfl, rfl⟩

/-- An answer at once, from a state with the same bus and responses. -/
theorem Answering.respond {s t : State} (h : SameBus s t) (hp : InPhase .idle s) (status : Status) (bit : Bool) :
    Answering s [] (respond status bit t) :=
  have ht := h.inPhase hp
  .given (responseWord status bit) ⟨ht.ts, ht.cs, ht.gh, ht.guard⟩ rfl (by simp [h.responses])

theorem weights_transmitSteps : weights transmitSteps < 192 := by decide

theorem weights_brightnessSteps (c : Config) (duty : BitVec 8) : weights (brightnessSteps c duty) < 192 := by
  simp [brightnessSteps, commandSteps, transactionSteps, Micro.weight]

/-- A request on a free lock, with no other agent to move, comes to its response. -/
theorem exec_answers {i : Instr} {s : State} (hi : i.isRequest = true) (hp : InPhase .idle s) (ha : s.agenda = [])
    (hl : legalLen s.len) : ∃ t, exec i s = .next t ∧ Answering s [] t ∧ t.pending = s.pending := by
  have runs {steps : List Micro} {l : Lifecycle} (hleads : leadsToResponse steps (.idle, l) = true)
      (hfuel : weights steps < 192) :
      ∃ u, Host.Outcome.next (φ := Fault) (ρ := Refusal) (run steps s) = .next u ∧ Answering s [] u ∧
        u.pending = s.pending :=
    have hrun := run_answers hp ha hl hleads hfuel
    ⟨_, rfl, hrun.1, hrun.2.pending⟩
  cases i
  case init mode =>
    simp only [exec, execInit]
    split
    · exact runs (leads_initSteps s.cfg mode) (weights_initSteps s.cfg mode)
    · exact ⟨_, rfl, .respond (.refl s) hp _ _, rfl⟩
  case transmitFrame =>
    simp only [exec, execTransmitFrame]
    split
    · exact runs leads_transmitSteps weights_transmitSteps
    · exact ⟨_, rfl, .respond (.refl s) hp _ _, rfl⟩
  case setBrightness duty =>
    simp only [exec, execSetBrightness]
    split
    · exact runs (leads_brightnessSteps s.cfg duty) (weights_brightnessSteps s.cfg duty)
    · exact ⟨_, rfl, .respond (.refl s) hp _ _, rfl⟩
  case close =>
    simp only [exec, execClose]
    split
    · exact ⟨_, rfl, .respond (sameBus_closed s) hp _ _, rfl⟩
    · exact ⟨_, rfl, .respond (.refl s) hp _ _, rfl⟩
  case setCell a b v =>
    simp only [exec, execSetCell]
    split_ifs
    · exact ⟨_, rfl, .respond (sameBus_setFb _ s) hp _ _, rfl⟩
    all_goals exact ⟨_, rfl, .respond (.refl s) hp _ _, rfl⟩
  case getCell a b =>
    simp only [exec, execGetCell]
    split_ifs <;> exact ⟨_, rfl, .respond (.refl s) hp _ _, rfl⟩
  case clear =>
    simp only [exec, execClear]
    split
    · exact ⟨_, rfl, .respond (sameBus_setFb _ s) hp _ _, rfl⟩
    · exact ⟨_, rfl, .respond (.refl s) hp _ _, rfl⟩
  case reserved0 | reserved8 | reserved9 | reservedA | reservedB | reservedC | reservedD | reservedE | reservedF =>
    exact ⟨_, rfl, .respond (.refl s) hp .illegalRequest false, rfl⟩
  all_goals cases hi

/-- Settles O38: the steps of a request keep it on its way to one response, and none of them is stuck. -/
theorem everyRequestEndsWithOneResponse : Obligations.EveryRequestEndsWithOneResponse := by
  intro s i hi ⟨hts, hfree, ha⟩ hcs hgh hl
  obtain ⟨t, he, hanswer, hpend⟩ := exec_answers hi ⟨hts, hcs, hgh, hfree⟩ ha hl
  cases hanswer with
  | owed g l hleads => cases hleads
  | given response hp hbusy hresp => exact ⟨t, response, he, hresp, hbusy, hpend, hp.ts, hp.cs, hp.gh, hp.guard⟩

end Sys2Proof.Machine
end

section
/-! SUPPORT. What the requests of the Framebuffer Store do in `Active`: one equation per request and range (R70 to R72). -/

namespace Sys2Proof.Machine

/-- R74: the bounds check as a proposition. -/
theorem inRange_eq_true_iff {len : Nat} {a : BitVec 8} {b : BitVec 3} :
    inRange len a b = true ↔ a.toNat < len ∧ b.toNat ≤ 3 := by
  simp [inRange]

/-- An address below a legal length names a physical cell (R12). -/
theorem lt_physCells_of_legalLen {n a : Nat} (hn : legalLen n) (ha : a < n) : a < physCells := by
  rcases hn with rfl | rfl
  · exact ha.trans (by decide)
  · exact ha

/-- The response is the last one given. -/
@[simp] theorem respond_getLast?_responses (status : Status) (bit : Bool) (s : State) :
    (respond status bit s).responses.getLast? = some (responseWord status bit) := List.getLast?_concat

/-- R61: the response word of an OK answer is its bit. -/
theorem responseWord_ok (bit : Bool) : responseWord .ok bit = if bit then 0x01#8 else 0x00#8 := by
  cases bit <;> rfl

section
variable {s : State} {a : BitVec 8} {b : BitVec 3}

/-- R70, in range. -/
theorem exec_setCell_inRange (v : Bool) (hs : s.lcs = .active) (ha : a.toNat < s.len) (hb : b.toNat ≤ 3) :
    exec (.setCell a b v) s = .next (respond .ok false { s with fb := setFbBit s.fb a.toNat b.toNat v }) := by
  simp only [exec, execSetCell, if_pos hs, if_pos (inRange_eq_true_iff.mpr ⟨ha, hb⟩)]

/-- R70, out of range: "a silent no-op". -/
theorem exec_setCell_outOfRange (v : Bool) (hs : s.lcs = .active) (h : s.len ≤ a.toNat ∨ 3 < b.toNat) :
    exec (.setCell a b v) s = .next (respond .ok false s) := by
  have hout : ¬ inRange s.len a b = true := by rw [inRange_eq_true_iff]; omega
  simp only [exec, execSetCell, if_pos hs, if_neg hout]

/-- R71, for all operands. -/
theorem exec_getCell_active (a : BitVec 8) (b : BitVec 3) (hs : s.lcs = .active) :
    exec (.getCell a b) s = .next (respond .ok
      (if a.toNat < s.len ∧ b.toNat ≤ 3 then fbBit s.fb a.toNat b.toNat else false) s) := by
  simp only [exec, execGetCell, if_pos hs, inRange_eq_true_iff]
  split <;> rfl

/-- R72. -/
theorem exec_clear_active (hs : s.lcs = .active) : exec .clear s = .next (respond .ok false (clearFramebuffer s)) := by
  simp only [exec, execClear, if_pos hs]

end

/-- Settles O10: in range the store is the written one, read back bit by bit; out of range only the response is given. -/
theorem setCellWritesOneBitOrNothing : Obligations.SetCellWritesOneBitOrNothing := by
  intro s a b v hs hlen
  refine ⟨fun ha hb => ⟨_, exec_setCell_inRange v hs ha hb, fun a' b' => ?_, rfl⟩, exec_setCell_outOfRange v hs⟩
  exact fbBit_setFbBit s.fb a.toNat b.toNat v a' b' (lt_physCells_of_legalLen hlen ha) hb

/-- Settles O12: at the location that was set the bit is the value, and at any other the read is the one before. -/
theorem getAfterSetReturnsTheValue : Obligations.GetAfterSetReturnsTheValue := by
  intro s a b v a' b' hs hlen ha hb
  refine ⟨_, _, _, exec_setCell_inRange v hs ha hb, exec_getCell_active a' b' hs, exec_getCell_active a' b' hs, ?_⟩
  have hread := fbBit_setFbBit s.fb a.toNat b.toNat v a'.toNat b'.toNat (lt_physCells_of_legalLen hlen ha) hb
  simp only [BitVec.toNat_inj] at hread
  by_cases hsame : a' = a ∧ b' = b
  · obtain ⟨rfl, rfl⟩ := hsame
    simp [hread, ha, hb, responseWord_ok]
  · simp [hread, hsame]

/-- Settles O13: the cells below the length are the cleared ones. -/
theorem clearZeroesEveryBitOfTheFramebuffer : Obligations.ClearZeroesEveryBitOfTheFramebuffer := fun s hs _ =>
  ⟨_, exec_clear_active hs, fbBit_clearCells s.len s.fb, rfl⟩

/-- Settles O11: the answer carries the bit, or 0 out of range. -/
theorem getCellReturnsTheBitOrFalse : Obligations.GetCellReturnsTheBitOrFalse := fun _ a b hs =>
  exec_getCell_active a b hs

end Sys2Proof.Machine
end

section
/-! SUPPORT. The Command Encoder: what one CMD comes to as an instruction of its own (R81), and `SET_BRIGHTNESS`, which is
one CMD and the report of its answer (R82, R85). -/

namespace Sys2Proof.Machine

/-! ### One CMD -/

/-- The state after one CMD on a free lock (R81). -/
def afterCommand (opcode : BitVec 8) (s : State) : State :=
  closeTransaction (writeStaging (openTransaction (stageWord (encodeCommand s.cfg opcode) s)))

/-- A CMD's transaction with its answer, and everything it leaves as it was (R81, R121). -/
structure CommandSent (opcode : BitVec 8) (s t : State) : Prop where
  trace : t.trace = s.trace ++ openingEvents ++ [.write (commandUnit s.cfg opcode) (drawWrite s).1] ++ closingEvents
  ok : t.ok = (drawWrite s).1
  cs : t.cs = false
  gh : t.gh = false
  responses : t.responses = s.responses
  busy : t.busy = s.busy
  writeAnswers : t.writeAnswers = s.writeAnswers.tail
  same : SameButSent s t

section
variable {s t : State}

/-- The answer of a CMD's write is the one the state before it has next: opening the transaction draws none. -/
theorem afterCommand_ok (opcode : BitVec 8) (s : State) : (afterCommand opcode s).ok = (drawWrite s).1 := by
  have hdraw := drawWrite_congr (s := s) (t := openTransaction (stageWord (encodeCommand s.cfg opcode) s))
    (by simp) (by simp)
  simp [afterCommand, hdraw]

/-- R81: one CMD on a free lock, whatever its write is answered. -/
theorem commandSent_afterCommand (hs : s.unhindered) (opcode : BitVec 8) :
    CommandSent opcode s (afterCommand opcode s) where
  trace := command_trace opcode s
  ok := afterCommand_ok opcode s
  cs := rfl
  gh := rfl
  responses := by simp [afterCommand]
  busy := by simp [afterCommand]
  writeAnswers := by simp [afterCommand]
  same := command_same hs opcode

/-- On a free lock the micro-operation CMD completes (R81). -/
theorem command_unhindered (hs : s.unhindered) (opcode : BitVec 8) :
    command opcode s = .next (afterCommand opcode s) := by
  have ⟨hidle, _, _⟩ := hs
  simp only [command, if_pos hidle, run_command hs, afterCommand]

/-! ### The report of a request's write -/

/-- The status that reports the answer of a request's last write (R85, R100). -/
def writeStatus (ok : Bool) : Status := if ok then .ok else .transportWriteError

/-- In `Active`, a request that sent something ends with the report of its last write (R85, R100). -/
theorem settle_report (n : Nat) (hs : s.lcs = .active) (ha : s.agenda = []) :
    settle (n + 3) [.checkWrite, .respond .ok false] s = respond (writeStatus s.ok) false s := by
  cases hok : s.ok with
  | true =>
    rw [settle_go (t := s) (more := []) ha (by simp [micro, checkWrite, hok]), List.nil_append,
      settle_go (t := respond .ok false s) (more := []) ha rfl]
    rfl
  | false =>
    rw [settle_abort (t := s) (steps := [.respond .transportWriteError false]) ha
        (by simp [micro, checkWrite, raise, hok, hs]),
      settle_go (t := respond .transportWriteError false s) (more := []) ha rfl]
    rfl

/-- A response changes nothing that `SameButSent` speaks of. -/
theorem SameButSent.respond (h : SameButSent s t) (status : Status) (bit : Bool) :
    SameButSent s (respond status bit t) := { h with }

/-! ### SET_BRIGHTNESS -/

/-- R82, R85: in `Active` and on a free lock, `SET_BRIGHTNESS` is the CMD of its opcode, then the report of its write. -/
theorem exec_setBrightness_active (duty : BitVec 8) (hlcs : s.lcs = .active) (hs : s.unhindered) :
    exec (.setBrightness duty) s = .next (respond (writeStatus (drawWrite s).1) false
      (afterCommand (s.cfg.opcPwmBase ||| (duty &&& 0x0F#8)) s)) := by
  have ⟨_, _, hagenda⟩ := hs
  have hsent := commandSent_afterCommand hs (s.cfg.opcPwmBase ||| (duty &&& 0x0F#8))
  have hrun : run (brightnessSteps s.cfg duty) s =
      settle 185 [.checkWrite, .respond .ok false] (afterCommand (s.cfg.opcPwmBase ||| (duty &&& 0x0F#8)) s) := by
    rw [run, fuelFor, hagenda, brightnessSteps, pwmOpcode_maskDuty]
    exact settle_command hs rfl
  simp only [exec, execSetBrightness, if_pos hlcs]
  rw [hrun, settle_report 182 (hsent.same.lcs.trans hlcs) (hsent.same.agenda.trans hagenda), hsent.ok]

/-- What the two statements about `SET_BRIGHTNESS` share: its one transaction, and the response that reports its write. -/
theorem setBrightness_sends (duty : BitVec 8) (hlcs : s.lcs = .active) (hs : s.unhindered) :
    ∃ t, exec (.setBrightness duty) s = .next t ∧
      t.trace = s.trace ++ (openingEvents ++
        [.write (commandUnit s.cfg (s.cfg.opcPwmBase ||| (duty &&& 0x0F#8))) (drawWrite s).1] ++ closingEvents) ∧
      t.responses = s.responses ++ [responseWord (writeStatus (drawWrite s).1) false] ∧
      t.busy = false ∧ t.cs = false ∧ t.gh = false ∧ t.writeAnswers = s.writeAnswers.tail ∧ SameButSent s t := by
  obtain ⟨htrace, -, hcs, hgh, hresp, -, hanswers, hsame⟩ :=
    commandSent_afterCommand hs (s.cfg.opcPwmBase ||| (duty &&& 0x0F#8))
  exact ⟨_, exec_setBrightness_active duty hlcs hs, by simpa using htrace, by simp [hresp], rfl, hcs, hgh, hanswers,
    hsame.respond _ _⟩

end

/-! ### The obligations -/

/-- Settles O16: every command row is the CMD of its opcode. -/
theorem commandRowsSendOneWordInOneTransaction : Obligations.CommandRowsSendOneWordInOneTransaction := by
  intro s i opcode hi hs
  obtain ⟨htrace, hok, hcs, hgh, hresp, hbusy, hanswers, hsame⟩ := commandSent_afterCommand hs opcode
  exact ⟨_, (exec_commandRow hi).trans (command_unhindered hs opcode),
    htrace, hok, hcs, hgh, hresp, hbusy, hanswers, hsame⟩

/-- Settles O18: with the write answered success, the report is `OK`. -/
theorem setBrightnessSendsTheMaskedDuty : Obligations.SetBrightnessSendsTheMaskedDuty := by
  intro s duty hlcs hs hok
  have hsends := setBrightness_sends duty hlcs hs
  rwa [hok] at hsends

/-- Settles O19: with the write answered failure, the same transaction is closed and the report is the error's. -/
theorem setBrightnessReportsAFailedWriteAfterCleanUp : Obligations.SetBrightnessReportsAFailedWriteAfterCleanUp := by
  intro s duty hlcs hs hok
  have hsends := setBrightness_sends duty hlcs hs
  rwa [hok] at hsends

end Sys2Proof.Machine
end

section
/-! SUPPORT. The Frame Encoder: TRANSMIT_FRAME is the frame's transaction and the report of its last write (R90, R100); the
bytes of its units, bit by bit (R96, R97, R101); one pass of the data loop; the frame's units as rows of their own. -/

namespace Sys2Proof.Machine

section
variable {s t : State} {events : List Event} {ok : Bool} {answers : List Bool}

/-! ### The frame's transaction and its report -/

/-- `t` is `s` after a frame's transaction that sent `events`, its last write answered `ok` (R98, R100); the free values of
the registers that hold none after a frame are `t`'s own. -/
def FrameEnded (events : List Event) (ok : Bool) (answers : List Bool) (s t : State) : Prop :=
  t = { s with
    trace := s.trace ++ events
    writeAnswers := answers, ok := ok, cs := false, gh := false, ts := .idle, guard := .free
    cur := t.cur, acc := t.acc, nb := t.nb, stg := t.stg, fresh := t.fresh }

/-- A frame's transaction on a free lock leaves the lock free and everything but its registers as it was (R90, R98). -/
theorem FrameEnded.same (h : FrameEnded events ok answers s t) (hs : s.unhindered) : SameButSent s t := by
  obtain ⟨hidle, hfree, _⟩ := hs
  rw [h]
  constructor <;> simp [hidle, hfree]

/-- R90, R100: in `Active`, `TRANSMIT_FRAME` is its frame's transaction and then the report of the last write. -/
theorem exec_transmitFrame_active {n : Nat} (hlcs : s.lcs = .active) (hs : s.unhindered) (hn : n ≤ 189)
    (hframe : ∀ m steps, settle (m + n) (frameSteps ++ steps) s = settle m steps t)
    (h : FrameEnded events ok answers s t) :
    exec .transmitFrame s = .next (respond (writeStatus ok) false t) := by
  obtain ⟨_, _, hagenda⟩ := hs
  have hrun : run transmitSteps s = settle (189 - n + 3) [.checkWrite, .respond .ok false] t := by
    rw [run, fuelFor, hagenda, transmitSteps, ← hframe]
    congr 1
    simp only [List.length_nil]; omega
  have hok : t.ok = ok := by rw [h]
  simp only [exec, execTransmitFrame, if_pos hlcs]
  rw [hrun, settle_report _ (by rw [h]; exact hlcs) (by rw [h]; exact hagenda), hok]

/-- What a written frame and a failed one share: one transaction, the response that reports its last write, and the frame
of everything else. -/
theorem transmitFrame_sends {k : Nat} (hlcs : s.lcs = .active) (hl : legalLen s.len) (hs : s.unhindered)
    (hk : k ≤ s.len / 2)
    (hframe : ∃ t, (∀ m steps, settle (m + (7 + k)) (frameSteps ++ steps) s = settle m steps t) ∧
      FrameEnded events ok answers s t) :
    ∃ t, exec .transmitFrame s = .next t ∧ t.trace = s.trace ++ events ∧
      t.responses = s.responses ++ [responseWord (writeStatus ok) false] ∧ t.busy = false ∧ t.cs = false ∧
      t.gh = false ∧ t.writeAnswers = answers ∧ SameButSent s t := by
  obtain ⟨t, hsettle, h⟩ := hframe
  have hsame := h.same hs
  have hfuel : 7 + k ≤ 189 := by rcases hl with hl | hl <;> omega
  refine ⟨_, exec_transmitFrame_active hlcs hs hfuel hsettle h, ?_, ?_, rfl, ?_, ?_, ?_, hsame.respond _ _⟩ <;>
    rw [h] <;> rfl

end

/-! ### The units of a frame -/

/-- Both lengths are even (R18), so that the last byte of a frame is padded (R95). -/
theorem even_of_legalLen {n : Nat} (h : legalLen n) : 2 * (n / 2) = n := by rcases h with rfl | rfl <;> rfl

section
variable (c : Config) (fb : Store) (len : Nat)

@[simp] theorem length_dataUnits : (dataUnits c fb len).length = len / 2 := by simp [dataUnits]

theorem length_of_mem_dataUnits {unit : List Byte} (h : unit ∈ dataUnits c fb len) : unit.length = 1 := by
  obtain ⟨k, -, rfl⟩ := List.mem_map.mp h
  rfl

@[simp] theorem length_flatten_frameUnits : (frameUnits c fb len).flatten.length = 2 + len / 2 := by
  simp [frameUnits_flatten]

/-- A bit of a wire byte, numbered as R101 does: bit `7 - (p mod 8)` of byte `p div 8` is stream bit `p`. -/
theorem streamByte_bit (p : Nat) : (streamByte c fb len (p / 8)).getLsbD (7 - p % 8) = streamBit c fb len p := by
  have hj : p % 8 < 8 := Nat.mod_lt p (by omega)
  have h := streamByte_getMsbD c fb len (p / 8) (p % 8) hj
  rw [BitVec.getMsbD_eq_getLsbD, Nat.div_add_mod] at h
  simpa [hj] using h

/-- The last byte of a frame of even length is of DATB_LAST's form (R95). -/
theorem streamByte_last {k : Nat} (h : 2 * k + 2 = len) :
    streamByte c fb len (k + 2) = paddedByte (leftoverBits (cellAt fb (2 * k + 1))) := by
  have hlast := assembleByte_last c fb len k h
  rw [assembleByte, if_neg (by omega)] at hlast
  exact (congrArg Prod.fst hlast).symm

/-- A cell is its four bits, bit index 0 highest (R11). -/
theorem bits_cellAt (a : Nat) : BitVec.ofBool (fbBit fb a 0) ++ BitVec.ofBool (fbBit fb a 1) ++
    BitVec.ofBool (fbBit fb a 2) ++ BitVec.ofBool (fbBit fb a 3) = cellAt fb a := by
  have h : ∀ cell : Cell, BitVec.ofBool (cellBit cell 0) ++ BitVec.ofBool (cellBit cell 1) ++
    BitVec.ofBool (cellBit cell 2) ++ BitVec.ofBool (cellBit cell 3) = cell := by decide
  exact h _

variable {len}

/-- On the wire of a frame of even length, the bit at R101's position of a cell's bit is that bit. -/
theorem wireBit_cell {a b : Nat} (heven : 2 * (len / 2) = len) (ha : a < len) (hb : b < 4) :
    wireBit (frameUnits c fb len).flatten (10 + 4 * a + b) = fbBit fb a b := by
  rw [wireBit_frame _ _ _ _ (by omega), streamBit_data c fb len a b ha hb]

/-- The chip reads the cells back (R32). -/
theorem nibbleOf_frame {a : Nat} (heven : 2 * (len / 2) = len) (ha : a < len) :
    nibbleOf (frameUnits c fb len).flatten a = cellAt fb a := by
  have hbit (b : Nat) (hb : b < 4) : wireBit (frameUnits c fb len).flatten (10 + b + 4 * a) = fbBit fb a b := by
    rw [Nat.add_right_comm, wireBit_cell c fb heven ha hb]
  rw [← bits_cellAt, ← hbit 0 (by omega), ← hbit 1 (by omega), ← hbit 2 (by omega), ← hbit 3 (by omega), nibbleOf]

/-- The byte that carries a cell's bit, and the bit's place in it (R101). -/
theorem frame_byte_of_cell {a b : Nat} (heven : 2 * (len / 2) = len) (ha : a < len) (hb : b < 4) :
    ∃ byte, (frameUnits c fb len).flatten[(10 + 4 * a + b) / 8]? = some byte ∧
      byte.getLsbD (7 - (10 + 4 * a + b) % 8) = fbBit fb a b := by
  have hk : (10 + 4 * a + b) / 8 < 2 + len / 2 := by omega
  refine ⟨streamByte c fb len ((10 + 4 * a + b) / 8), by simp [frameUnits_flatten, hk], ?_⟩
  rw [streamByte_bit, streamBit_data c fb len a b ha hb]

/-- The six low bits of a frame's last byte are padding (R95). -/
theorem frame_last_byte {k : Nat} (h : 2 * k + 2 = len) :
    ∃ last, (frameUnits c fb len).flatten.getLast? = some last ∧ last.extractLsb' 0 6 = 0#6 := by
  refine ⟨streamByte c fb len (k + 2), ?_, by rw [streamByte_last c fb len h, paddedByte_pad]⟩
  rw [frameUnits_flatten, show 2 + len / 2 = k + 2 + 1 by omega, List.range_succ]
  simp

end

/-! ### One pass of the data loop -/

/-- The byte assembled at an odd cursor of an even length, and its filled positions (R93 to R95, R101). -/
theorem assembleByte_odd (c : Config) (fb : Store) {len k : Nat} (heven : 2 * (len / 2) = len) (hk : 2 * k + 1 < len) :
    assembleByte fb len (2 * k + 1) = (streamByte c fb len (k + 2), if 2 * k + 3 < len then 8 else 2) := by
  by_cases h : 2 * k + 3 < len
  · rw [if_pos h, assembleByte_full c fb len k h]
  · rw [if_neg h, assembleByte_last c fb len k (by omega)]

/-! ### The units as rows of their own -/

section
variable {s t : State}

/-- A unit written inside an open transaction, with its answer, and everything it leaves as it was (R125). -/
structure UnitWritten (unit : List Byte) (s t : State) : Prop where
  trace : t.trace = s.trace ++ [.write unit (drawWrite s).1]
  ok : t.ok = (drawWrite s).1
  cs : t.cs = s.cs
  gh : t.gh = s.gh
  responses : t.responses = s.responses
  busy : t.busy = s.busy
  writeAnswers : t.writeAnswers = s.writeAnswers.tail
  same : SameButSent s t

/-- A row of one step that goes on without another completes with that step. -/
theorem frameUnit_of_go {m : Micro} (hsel : s.ts = .selected) (ha : s.agenda = []) (hm : micro m s = .go t []) :
    frameUnit m s = .next t := by
  rw [frameUnit, if_pos hsel, run, fuelFor, ha]
  exact congrArg Host.Outcome.next (settle_go ha hm)

/-- The state after the header unit of HDRW (R92). -/
def afterHeaderRow (data : BitVec 6) (s : State) : State := sendHeaderUnit (stageWord (headerWord s.cfg data) s)

/-- The state after the data byte of DATB or DATB_LAST (R94, R95). -/
def afterByteRow (byte : Byte) (bits : Nat) (s : State) : State := sendAccumulator { s with acc := byte, nb := bits }

/-- The two bytes of a header unit (R52, R91, R92). -/
theorem wireUnit_headerWord (c : Config) (data : BitVec 6) :
    wireUnit (headerWord c data) = [c.wrClass ++ 0#5, 0#2 ++ data] := by
  simp only [wireUnit, List.cons.injEq, and_true]
  constructor
  all_goals
    apply BitVec.eq_of_getLsbD_eq; intro i hi
    interval_cases i <;>
      simp only [headerWord, startAddr, BitVec.getLsbD_append, BitVec.getLsbD_extractLsb'] <;> simp

theorem unitWritten_headerRow (data : BitVec 6) (s : State) :
    UnitWritten [s.cfg.wrClass ++ 0#5, 0#2 ++ data] s (afterHeaderRow data s) :=
  have hdraw := drawWrite_congr (s := s) (t := stageWord (headerWord s.cfg data) s) rfl rfl
  { trace := by rw [← wireUnit_headerWord]; simp [afterHeaderRow, hdraw, wireUnit]
    ok := by simp [afterHeaderRow, hdraw]
    cs := by simp [afterHeaderRow]
    gh := by simp [afterHeaderRow]
    responses := by simp [afterHeaderRow]
    busy := by simp [afterHeaderRow]
    writeAnswers := by simp [afterHeaderRow]
    same := by constructor <;> simp [afterHeaderRow] }

/-- A lone data byte, with the answer named (R94, log 12). -/
theorem afterByteRow_eq (byte : Byte) (bits : Nat) (s : State) :
    afterByteRow byte bits s = { s with
      trace := s.trace ++ [.write [byte] (drawWrite s).1]
      writeAnswers := s.writeAnswers.tail
      fresh := (drawWrite s).2.fresh
      ok := (drawWrite s).1
      acc := byte
      nb := bits
      cur := if (drawWrite s).1 && bits == 8 then s.cur + 2 else s.cur } := by
  have hdraw : drawWrite { s with acc := byte, nb := bits } =
      ((drawWrite s).1, { s with
        acc := byte, nb := bits, writeAnswers := s.writeAnswers.tail, fresh := (drawWrite s).2.fresh }) := by
    unfold drawWrite; cases s.writeAnswers <;> rfl
  simp only [afterByteRow, sendAccumulator, writeUnit, hdraw, emit]
  split <;> rfl

theorem unitWritten_byteRow (byte : Byte) (bits : Nat) (s : State) :
    UnitWritten [byte] s (afterByteRow byte bits s) := by
  rw [afterByteRow_eq]
  exact ⟨rfl, rfl, rfl, rfl, rfl, rfl, rfl, ⟨rfl, rfl, rfl, rfl, rfl, rfl, rfl, rfl, rfl, rfl, rfl, rfl, rfl⟩⟩

section
variable (hsel : s.ts = .selected) (ha : s.agenda = [])
include hsel ha

theorem exec_hdrw_selected (data : BitVec 6) : exec (.hdrw data) s = .next (afterHeaderRow data s) :=
  frameUnit_of_go hsel ha (by simp [micro, sendHeader, hsel, afterHeaderRow])

theorem frameUnit_sendByte (byte : Byte) (bits : Nat) :
    frameUnit (.sendByte byte bits) s = .next (afterByteRow byte bits s) :=
  frameUnit_of_go hsel ha (by simp [micro, sendByte, hsel, afterByteRow])

end

end

/-! ### The obligations -/

/-- Settles O20: every unit was written, and the report is `OK`. -/
theorem transmitFrameSendsThePaddedBitString : Obligations.TransmitFrameSendsThePaddedBitString := by
  intro s rest hlcs hl hs hw
  exact transmitFrame_sends hlcs hl hs le_rfl (settle_frame hs hl hw)

/-- Settles O21: the transaction ends with the failed unit, and the report is the error's. -/
theorem transmitFrameStopsAtAFailedUnit : Obligations.TransmitFrameStopsAtAFailedUnit := by
  intro s k rest hlcs hl hs hk hw
  exact transmitFrame_sends hlcs hl hs (by omega) (settle_frame_fails hs hl hk hw)

/-- The `Write` events of a successful `TRANSMIT_FRAME` are the frame's units (R96, R98). -/
theorem transmitFrame_writes {s : State} {answers : List Bool} (hlcs : s.lcs = .active) (hl : legalLen s.len)
    (hs : s.unhindered) (hw : s.writeAnswers = List.replicate (1 + s.len / 2) true ++ answers) :
    ∃ t events, exec .transmitFrame s = .next t ∧ t.trace = s.trace ++ events ∧
      writtenUnits events = frameUnits s.cfg s.fb s.len := by
  obtain ⟨t, hexec, htrace, -⟩ := transmitFrameSendsThePaddedBitString s answers hlcs hl hs hw
  exact ⟨t, _, hexec, htrace, writtenUnits_transaction _⟩

/-- Settles O22: the counts of the frame's units, and R96's string past its data. -/
theorem frameHasTheStatedUnitsAndBytes : Obligations.FrameHasTheStatedUnitsAndBytes := by
  intro s rest hlcs hl hs hw
  obtain ⟨t, events, hexec, htrace, hunits⟩ := transmitFrame_writes hlcs hl hs hw
  have hbytes := length_flatten_frameUnits s.cfg s.fb s.len
  have heven := even_of_legalLen hl
  refine ⟨t, events, [streamByte s.cfg s.fb s.len 0, streamByte s.cfg s.fb s.len 1], dataUnits s.cfg s.fb s.len, hexec,
    htrace, hunits, rfl, fun _ => length_of_mem_dataUnits _ _ _, ?_⟩
  rw [hunits, hbytes, length_dataUnits]
  refine ⟨by omega, rfl, by omega, fun h => ?_, fun h => ?_, fun p hp hlt => ⟨by omega, ?_⟩⟩
  · simp [frameUnits, h]
  · simp [frameUnits, h]
  · rw [wireBit_frame _ _ _ _ hlt, streamBit_pad _ _ _ _ hp]

/-- Settles O23: the frame's bytes are R96's string, read at R101's positions. -/
theorem framePutsEveryBitAtItsPosition : Obligations.FramePutsEveryBitAtItsPosition := by
  intro s rest hlcs hl hs hw
  obtain ⟨t, events, hexec, htrace, hunits⟩ := transmitFrame_writes hlcs hl hs hw
  have heven := even_of_legalLen hl
  refine ⟨t, events, hexec, htrace, ?_⟩
  rw [hunits]
  exact ⟨fun a b ha hb => frame_byte_of_cell _ _ heven ha (by omega), fun a ha => nibbleOf_frame _ _ heven ha,
    frame_last_byte _ _ (k := s.len / 2 - 1) (by rcases hl with h | h <;> omega)⟩

/-- Settles O24: the assembled byte is the wire byte of the cursor's place. -/
theorem dataLoopWritesTheNextByte : Obligations.DataLoopWritesTheNextByte := by
  intro s k hsel hl hcur hlt
  have hbyte : assembleByte s.fb s.len s.cur =
      (streamByte s.cfg s.fb s.len (k + 2), if s.cur + 2 < s.len then 8 else 2) := by
    rw [hcur]
    exact assembleByte_odd s.cfg s.fb (even_of_legalLen hl) (hcur ▸ hlt)
  refine ⟨_, _, micro_writeData hsel hbyte, rfl, rfl, ?_, ?_, rfl, hsel⟩ <;>
    by_cases h : s.cur + 2 < s.len <;> simp [h]

/-- Settles O25: each row is one step, the header unit's or a data byte's. -/
theorem frameRowsWriteTheirOneUnit : Obligations.FrameRowsWriteTheirOneUnit := by
  intro s i unit hunit hsel ha
  cases i <;> simp only [frameRowUnit, Option.some.injEq, reduceCtorEq] at hunit <;> subst hunit
  case hdrw data =>
    obtain ⟨htrace, hok, hcs, hgh, hresp, hbusy, hanswers, hsame⟩ := unitWritten_headerRow data s
    exact ⟨_, exec_hdrw_selected hsel ha data, htrace, hok, hcs, hgh, hresp, hbusy, hanswers, hsame,
      fun _ _ => by simp [afterHeaderRow], nofun, nofun⟩
  case datb byte =>
    obtain ⟨htrace, hok, hcs, hgh, hresp, hbusy, hanswers, hsame⟩ := unitWritten_byteRow byte 8 s
    exact ⟨_, frameUnit_sendByte hsel ha byte 8, htrace, hok, hcs, hgh, hresp, hbusy, hanswers, hsame, nofun,
      fun _ h => by cases h; simp [afterByteRow_eq], nofun⟩
  case datbLast data =>
    obtain ⟨htrace, hok, hcs, hgh, hresp, hbusy, hanswers, hsame⟩ := unitWritten_byteRow (paddedByte data) 2 s
    exact ⟨_, frameUnit_sendByte hsel ha (paddedByte data) 2, htrace, hok, hcs, hgh, hresp, hbusy, hanswers, hsame, nofun,
      nofun, fun _ h => by cases h; simp [afterByteRow_eq, paddedByte]⟩

end Sys2Proof.Machine
end

section
/-! SUPPORT. The Chip Lifecycle Controller: the length of a mode (R107), `CLOSE` (R112, R113), and that nothing but the
reset input leaves `Closed` (R114). -/

namespace Sys2Proof.Machine

/-! ### The length of a mode -/

theorem lenOf_eightCells {c : Config} {mode : BitVec 8} (h : mode = c.mode8N ∨ mode = c.mode8P) : lenOf c mode = 64 :=
  if_pos h

/-- The 16-cell modes and the modes that are none of the four have the same length (R107). -/
theorem lenOf_otherModes {c : Config} {mode : BitVec 8} (h : mode ≠ c.mode8N ∧ mode ≠ c.mode8P) :
    lenOf c mode = 96 := by
  rw [lenOf, if_neg (not_or.mpr h)]
  exact ite_self _

/-! ### CLOSE -/

section
variable {s : State}

theorem exec_close_active (hs : s.lcs = .active) :
    exec .close s = .next (respond .ok false { forgetStore (closeTransport s) with lcs := .closed }) := by
  simp only [exec, execClose, if_pos hs]

theorem exec_close_inactive (hs : s.lcs ≠ .active) : exec .close s = .next (respond .ok false s) := by
  simp only [exec, execClose, if_neg hs]

end

/-! ### Closed -/

/-- No planned step has its place in `Closed`. -/
theorem LeadsOn.not_closed {l l' : Lifecycle} {m : Micro} {g g' : Stage} (h : LeadsOn l m g g' l') : l ≠ .closed := by
  rintro rfl
  cases h <;> contradiction

/-- In `Closed` the only steps that lead to a response are the response. -/
theorem respond_of_leads_closed {steps : List Micro} {g : Stage} (h : leadsToResponse steps (g, .closed) = true) :
    ∃ status bit, steps = [.respond status bit] := by
  cases steps with
  | nil => cases h
  | cons m rest =>
    rcases leadsToResponse_cons h with ⟨status, bit, rfl, rfl, -⟩ | ⟨_, _, _, _, _, hl | hl⟩ | ⟨⟨g', l'⟩, hq, -⟩
    · exact ⟨status, bit, rfl⟩
    · cases hl
    · cases hl
    · exact absurd rfl (leadsOn_of_afterMicro hq).not_closed

section
variable {s t : State}

/-- Steps that have their place in `Closed` stay there, whatever the other agents do. -/
theorem run_closed {steps : List Micro} {g : Stage} (hs : s.lcs = .closed)
    (hleads : leadsToResponse steps (g, s.lcs) = true) : (run steps s).lcs = .closed := by
  obtain ⟨status, bit, rfl⟩ := respond_of_leads_closed (hs ▸ hleads)
  exact (sameStore_run rfl).lcs.trans hs

/-- R114: a request in `Closed` stays there. -/
theorem exec_closed {i : Instr} (hs : s.lcs = .closed) (hi : i.isRequest = true) (he : exec i s = .next t) :
    t.lcs = .closed := by
  rcases exec_request_cases hi s with ⟨_, _, _, e⟩ | ⟨-, e⟩ | ⟨steps, e, hleads, -⟩
  all_goals
    rw [e] at he
    cases he
  · exact hs
  · rfl
  · exact run_closed hs hleads

/-- R114: the framer's move in `Closed` stays there. -/
theorem framerMove_closed (h : s.Inv) (hs : s.lcs = .closed) (he : framerMove s = .next t) : t.lcs = .closed := by
  obtain ⟨turns, hdrop⟩ := dropTurn_eq s
  unfold framerMove at he
  split at he
  next =>
    split at he
    · cases he
      rw [hdrop]
      exact hs
    · split at he
      · cases he
        rw [hdrop]
        exact hs
      next w rest _ =>
        refine exec_closed ?_ (decodeRequest_isRequest w) he
        rw [accept, hdrop]
        exact hs
  next hp =>
    cases he
    exact run_closed (s := { s with pending := [] }) hs (h.leads hp)

end

/-! ### The obligations -/

/-- Settles O28: only the two 8-cell modes have the shorter length. -/
theorem lengthFollowsTheMode : Obligations.LengthFollowsTheMode := by
  intro c mode hc
  simp only [Config.wf, Bool.and_eq_true, decide_eq_true_eq, List.nodup_cons, List.mem_cons, List.not_mem_nil, or_false,
    not_or] at hc
  obtain ⟨⟨⟨-, h8N16N, h8N16P⟩, ⟨h8P16N, h8P16P⟩, -⟩, -⟩ := hc
  refine ⟨lenOf_eightCells (.inl rfl), lenOf_eightCells (.inr rfl), lenOf_otherModes ⟨Ne.symm h8N16N, Ne.symm h8P16N⟩,
    lenOf_otherModes ⟨Ne.symm h8N16P, Ne.symm h8P16P⟩, fun hmode => ?_⟩
  simp only [List.mem_cons, not_or] at hmode
  obtain ⟨h8N, h8P, -⟩ := hmode
  exact lenOf_otherModes ⟨h8N, h8P⟩

/-- Settles O33: the release in `Active`, and the answer elsewhere, which is the second `CLOSE`'s too. -/
theorem closeReleasesOnceAndIsIdempotent : Obligations.CloseReleasesOnceAndIsIdempotent := fun _ =>
  ⟨fun hs => ⟨_, exec_close_active hs, rfl, exec_close_inactive nofun⟩, exec_close_inactive⟩

/-- Settles O34: the other agents move only the lock's owner, and a request has nothing to do in `Closed` but respond. -/
theorem onlyResetLeavesClosed : Obligations.OnlyResetLeavesClosed := by
  intro s t h hs hreset he
  unfold step at he
  split at he
  next turns _ =>
    cases he
    obtain ⟨_, e, -⟩ := otherTakes_eq { s with agenda := turns }
    rw [e]
    exact hs
  next turns _ =>
    cases he
    obtain ⟨_, e, -⟩ := otherReleases_eq { s with agenda := turns }
    rw [e]
    exact hs
  next =>
    cases he
    exact hs
  next turns ha => exact absurd (by rw [ha]; rfl) hreset
  all_goals exact framerMove_closed h hs he

end Sys2Proof.Machine
end

section
/-! SUPPORT. The Chip Lifecycle Controller: `INIT` (R106 to R110). The steps of a request are put together from parts that
each take a number of the framer's steps; the bring-up is the acquisition, the eight commands and the clear; the blank frame
follows it; and a failed write at any place gives the acquisition back. -/

namespace Sys2Proof.Machine

/-! ### Steps carried out to their end -/

/-- On `k` moves of the framer, the steps lead from `s` to `t`, whatever is to be done after them. -/
def Takes (k : Nat) (steps : List Micro) (s t : State) : Prop :=
  ∀ n rest, settle (n + k) (steps ++ rest) s = settle n rest t

/-- `t` is `s` after transactions that sent `events`. The free values of the registers that hold none between transactions,
the flags and the last answer are `t`'s own: they are the last transaction's, and there may be none. -/
def Sent (events : List Event) (answers : List Bool) (s t : State) : Prop :=
  t = { s with
    trace := s.trace ++ events
    writeAnswers := answers, ok := t.ok, cs := t.cs, gh := t.gh
    cur := t.cur, acc := t.acc, nb := t.nb, stg := t.stg, fresh := t.fresh }

section
variable {s t u : State} {j k : Nat} {steps steps' : List Micro} {events events' : List Event}
  {answers answers' : List Bool} {ok : Bool}

theorem State.unhindered.agenda (hs : s.unhindered) : s.agenda = [] :=
  have ⟨_, _, ha⟩ := hs
  ha

theorem Takes.refl (s : State) : Takes 0 [] s s := fun _ _ => rfl

theorem Takes.trans (h : Takes j steps s t) (h' : Takes k steps' t u) : Takes (j + k) (steps ++ steps') s u := by
  intro n rest
  rw [List.append_assoc, Nat.add_comm j, ← Nat.add_assoc, h, h']

theorem takes_of_go {m : Micro} (ha : s.agenda = []) (hm : micro m s = .go t []) : Takes 1 [m] s t :=
  fun _ _ => settle_go ha hm

/-- A request whose steps begin with a part that fits in the fuel comes to the end of that part. -/
theorem Takes.run {rest : List Micro} (h : Takes k steps s t) (ha : s.agenda = []) (hk : k ≤ 192) :
    run (steps ++ rest) s = settle (192 - k) rest t := by
  rw [Machine.run, fuelFor, ha, ← h]
  congr 1
  simp only [List.length_nil]; omega

theorem Sent.refl (s : State) : Sent [] s.writeAnswers s s := by simp [Sent]

theorem Sent.trans (h : Sent events answers s t) (h' : Sent events' answers' t u) :
    Sent (events ++ events') answers' s u := by
  unfold Sent
  rw [h', h]
  simp

theorem Sent.unhindered (h : Sent events answers s t) (hs : s.unhindered) : t.unhindered := by rw [h]; exact hs

theorem Sent.frameEnded (h : Sent events answers s t) (h' : FrameEnded events' ok answers' t u) :
    FrameEnded (events ++ events') ok answers' s u := by
  unfold FrameEnded
  rw [h', h]
  simp

theorem FrameEnded.sent (h : FrameEnded events ok answers s t) (hs : s.unhindered) : Sent events answers s t := by
  obtain ⟨hidle, hfree, _⟩ := hs
  unfold Sent
  rw [h]
  simp [hidle, hfree]

/-- Clearing the store commutes with what was sent before it. -/
theorem Sent.clear (h : Sent events answers s t) :
    Sent events answers (clearFramebuffer s) (clearFramebuffer t) := by
  unfold Sent
  rw [h]
  rfl

end

/-! ### The eight commands -/

section
variable {s : State} {ok : Bool} {answers : List Bool}

/-- A CMD on a free lock ends as a frame's transaction does, with its one unit (R81, R121). -/
theorem frameEnded_afterCommand (opcode : BitVec 8) (hw : s.writeAnswers = ok :: answers) :
    FrameEnded (openingEvents ++ [.write (commandUnit s.cfg opcode) ok] ++ closingEvents) ok answers s
      (afterCommand opcode s) := by
  simp [FrameEnded, afterCommand, closeTransaction, forgetFrame, writeStaging, forgetStaging, writeUnit, drawWrite, hw,
    openTransaction, emit, setPhase, csOf, ghOf, stageWord, openingEvents, closingEvents, commandUnit, wireUnit]

end

/-- The step stages the command word of the opcode, wherever the parameters and the latched mode are these (R80, R108). -/
def Stages (c : Config) (mode : BitVec 8) (command : Micro × BitVec 8) : Prop :=
  ∀ s : State, s.cfg = c → s.mode = mode →
    micro command.1 s = .go (stageWord (encodeCommand c command.2) s) []

/-- The eight commands of the bring-up: the step that stages each, and its opcode (R108). -/
def bringUpCommands (c : Config) (mode : BitVec 8) : List (Micro × BitVec 8) :=
  [.stageCommand c.opcSysDis, .stageCommonsMode, .stageCommand c.opcMaster, .stageCommand c.opcRcClk,
    .stageCommand c.opcSysEn, .stageCommand c.opcLedOn, .stageCommand c.opcBlinkOff,
    .stageCommand (pwmOpcode c c.defaultDuty)].zip (bringUpOpcodes c mode)

/-- The steps of some commands of the bring-up, one after the other. -/
def commandsSteps (commands : List (Micro × BitVec 8)) : List Micro := commands.flatMap fun p => bringUpCommand p.1

/-- The units of some commands of the bring-up. -/
def commandsUnits (c : Config) (commands : List (Micro × BitVec 8)) : List (List Byte) :=
  commands.map fun p => commandUnit c p.2

theorem bringUpSteps_eq (c : Config) (mode : BitVec 8) : bringUpSteps c = commandsSteps (bringUpCommands c mode) := rfl

theorem bringUpUnits_eq (c : Config) (mode : BitVec 8) : bringUpUnits c mode = commandsUnits c (bringUpCommands c mode) :=
  rfl

theorem stages_bringUpCommands (c : Config) (mode : BitVec 8) : ∀ p ∈ bringUpCommands c mode, Stages c mode p := by
  simp only [bringUpCommands, bringUpOpcodes, List.zip_cons_cons, List.zip_nil_right, List.forall_mem_cons, Stages, micro,
    pwmOpcode_eq]
  refine ⟨?_, ?_, ?_, ?_, ?_, ?_, ?_, ?_, nofun⟩ <;> rintro s rfl rfl <;> rfl

/-- Command `k`, with those before it and those after it. -/
theorem bringUpCommands_split (c : Config) (mode : BitVec 8) {k : Nat} (hk : k < 8) :
    ∃ before p after, bringUpCommands c mode = before ++ p :: after ∧ before.length = k :=
  have hlt : k < (bringUpCommands c mode).length := hk
  ⟨_, _, _, by rw [← List.drop_eq_getElem_cons hlt, List.take_append_drop], List.length_take_of_le hlt.le⟩

theorem bringUpUnits_split {c : Config} {mode : BitVec 8} {before after : List (Micro × BitVec 8)}
    {p : Micro × BitVec 8} (h : bringUpCommands c mode = before ++ p :: after) :
    (bringUpUnits c mode).take before.length = commandsUnits c before ∧
      (bringUpUnits c mode)[before.length]? = some (commandUnit c p.2) := by
  simp [bringUpUnits_eq, h, commandsUnits]

section
variable {c : Config} {mode : BitVec 8} {commands : List (Micro × BitVec 8)} {p : Micro × BitVec 8} {s : State}
  {answers : List Bool}

/-- One command of the bring-up, up to the report of its write. -/
theorem takes_command (hp : Stages c mode p) (hs : s.unhindered) (hc : s.cfg = c) (hm : s.mode = mode) :
    Takes 7 (transactionSteps p.1 .writeStaged) s (afterCommand p.2 s) := fun _ _ =>
  settle_command hs (by rw [hp s hc hm, hc])

/-- Commands whose writes are all answered success: each in a transaction of its own (R108). -/
theorem takes_commands (hstages : ∀ p ∈ commands, Stages c mode p) (hs : s.unhindered) (hc : s.cfg = c)
    (hm : s.mode = mode) (hw : s.writeAnswers = List.replicate commands.length true ++ answers) :
    ∃ t, Takes (8 * commands.length) (commandsSteps commands) s t ∧
      Sent (separateTransactions (commandsUnits c commands)) answers s t := by
  induction commands generalizing s with
  | nil =>
    obtain rfl : s.writeAnswers = answers := hw
    exact ⟨s, .refl s, .refl s⟩
  | cons p commands ih =>
    rw [List.forall_mem_cons] at hstages
    obtain ⟨hp, hrest⟩ := hstages
    rw [List.length_cons, List.replicate_succ, List.cons_append] at hw
    have hended := frameEnded_afterCommand p.2 hw
    have hsent := hended.sent hs
    have hfirst := takes_command hp hs hc hm
    have hcheck : Takes 1 [.checkWrite] (afterCommand p.2 s) (afterCommand p.2 s) :=
      takes_of_go (hsent.unhindered hs).agenda (by rw [hended]; rfl)
    obtain ⟨t, htakes, ht⟩ := ih hrest (hsent.unhindered hs) (by rw [hended]; exact hc) (by rw [hended]; exact hm)
      (by rw [hended])
    refine ⟨t, ?_, ?_⟩
    · rw [List.length_cons, Nat.mul_succ, Nat.add_comm]
      exact (hfirst.trans hcheck).trans htakes
    · rw [hc] at hsent
      exact hsent.trans ht

end

/-! ### The acquisition and the bring-up -/

/-- An `INIT` that holds the transport and the store, about to send its first command (R106 to R108). -/
def configuring (mode : BitVec 8) (opens allocs : List Bool) (s : State) : State :=
  { acquired mode opens allocs s.fresh s with lcs := .configuring }

section
variable {s : State} {opens answers : List Bool}

/-- R106, R107: `open` and the allocation are granted, or there is nothing to ask the allocation for (R136). -/
theorem acquire_granted (mode : BitVec 8) (hopen : s.openAnswers = true :: opens)
    (halloc : s.cfg.allocCanFail = true → s.allocAnswers.head? = some true) :
    ∃ allocs, micro (.acquire mode) s = .go { acquired mode opens allocs s.fresh s with lcs := .disabled } [] := by
  cases hcan : s.cfg.allocCanFail with
  | false => exact ⟨s.allocAnswers, by simp [micro, acquire, drawOpen, hopen, allocate, drawAlloc, hcan, emit, acquired]⟩
  | true =>
    obtain ⟨allocs, hallocs⟩ := List.head?_eq_some_iff.mp (halloc hcan)
    exact ⟨allocs, by simp [micro, acquire, drawOpen, hopen, allocate, drawAlloc, hcan, hallocs, emit, acquired]⟩

section
variable (hs : s.unhindered) (hopen : s.openAnswers = true :: opens)
  (halloc : s.cfg.allocCanFail = true → s.allocAnswers.head? = some true)
include hs hopen halloc

theorem takes_acquisition (mode : BitVec 8) :
    ∃ allocs, Takes 2 [.acquire mode, .enterConfiguring] s (configuring mode opens allocs s) := by
  obtain ⟨allocs, hacquire⟩ := acquire_granted mode hopen halloc
  exact ⟨allocs, (takes_of_go hs.agenda hacquire).trans (takes_of_go hs.agenda rfl)⟩

/-- R106 to R108: the acquisition, the eight commands, and the clear. -/
theorem takes_bringUp (mode : BitVec 8) (hw : s.writeAnswers = List.replicate 8 true ++ answers) :
    ∃ allocs t,
      Takes 67 ([.acquire mode, .enterConfiguring] ++ bringUpSteps s.cfg ++ [.clearStore]) s t ∧
      Sent (separateTransactions (bringUpUnits s.cfg mode)) answers
        (clearFramebuffer (configuring mode opens allocs s)) t := by
  obtain ⟨allocs, hacquire⟩ := takes_acquisition hs hopen halloc mode
  obtain ⟨t, htakes, hsent⟩ := takes_commands (s := configuring mode opens allocs s)
    (stages_bringUpCommands s.cfg mode) hs rfl rfl hw
  exact ⟨allocs, _, (hacquire.trans htakes).trans (takes_of_go (hsent.unhindered hs).agenda rfl), hsent.clear⟩

/-- R106 to R108: the acquisition and the commands up to command `k`, whose write fails. -/
theorem takes_failedCommand (mode : BitVec 8) {k : Nat} (hk : k < 8)
    (hw : s.writeAnswers = List.replicate k true ++ false :: answers) :
    ∃ allocs done rest t, initSteps s.cfg mode = done ++ .checkWrite :: rest ∧ Takes (2 + 8 * k + 7) done s t ∧
      FrameEnded (separateTransactions ((bringUpUnits s.cfg mode).take k) ++
        failedEvents [] (((bringUpUnits s.cfg mode)[k]?).getD [])) false answers (configuring mode opens allocs s) t := by
  obtain ⟨before, p, after, hsplit, rfl⟩ := bringUpCommands_split s.cfg mode hk
  have hstages := stages_bringUpCommands s.cfg mode
  rw [hsplit, List.forall_mem_append, List.forall_mem_cons] at hstages
  obtain ⟨hbefore, hp, -⟩ := hstages
  obtain ⟨allocs, hacquire⟩ := takes_acquisition hs hopen halloc mode
  obtain ⟨t, htakes, hsent⟩ := takes_commands (s := configuring mode opens allocs s) hbefore hs rfl rfl hw
  have hfailed := takes_command hp (hsent.unhindered hs) (by rw [hsent]; rfl) (by rw [hsent]; rfl)
  have hended := frameEnded_afterCommand p.2 (s := t) (by rw [hsent])
  refine ⟨allocs, _, commandsSteps after ++ (.clearStore :: frameSteps) ++ [.checkWrite, .enterActive, .respond .ok false],
    _, ?_, (hacquire.trans htakes).trans hfailed, ?_⟩
  · simp [initSteps, bringUpSteps_eq s.cfg mode, hsplit, commandsSteps, bringUpCommand]
  · have hcfg : t.cfg = s.cfg := by rw [hsent]; rfl
    obtain ⟨hsentUnits, hfailedUnit⟩ := bringUpUnits_split hsplit
    rw [hcfg] at hended
    rw [hsentUnits, hfailedUnit]
    simpa [failedEvents] using hsent.frameEnded hended

end

end

/-! ### The blank frame -/

/-- Past the header, a bit of a frame of a cleared store is 0, whatever the cells beyond the length hold (R96, R108). -/
theorem streamBit_clearCells (c : Config) (fb : Store) (len p : Nat) :
    streamBit c (clearCells len fb) len p = streamBit c (Vector.replicate physCells 0#4) len p := by
  have hblank (a b : Nat) : fbBit (Vector.replicate physCells 0#4) a b = false := by
    by_cases ha : a < physCells <;> simp [fbBit, cellAt, cellBit, ha, BitVec.getMsbD_eq_getLsbD]
  have hclear : p < 10 + 4 * len → ¬ p < 10 → fbBit (clearCells len fb) ((p - 10) / 4) ((p - 10) % 4) = false :=
    fun hlt hge => by rw [fbBit_clearCells, if_pos (by omega)]
  unfold streamBit
  split_ifs with hclass haddress hdata
  · rfl
  · rfl
  · rw [hclear hdata haddress, hblank]
  · rfl

/-- R108: the frame of a cleared store is the blank one. -/
theorem frameUnits_clearCells (c : Config) (fb : Store) (len : Nat) :
    frameUnits c (clearCells len fb) len = frameUnits c (Vector.replicate physCells 0#4) len := by
  simp [frameUnits, dataUnits, streamByte, streamBit_clearCells]

section
variable {s t : State} {mode : BitVec 8} {opens allocs answers : List Bool} {events : List Event}

/-- What the blank frame is about to be sent from (R107, R108). -/
theorem Sent.blankFrame (h : Sent events answers (clearFramebuffer (configuring mode opens allocs s)) t) :
    t.len = lenOf s.cfg mode ∧
      frameUnits t.cfg t.fb t.len = frameUnits s.cfg (Vector.replicate physCells 0#4) (lenOf s.cfg mode) := by
  rw [h]
  exact ⟨rfl, frameUnits_clearCells _ _ _⟩

/-! ### The ends of `INIT` -/

/-- In `Uninitialized`, an `INIT` whose steps begin with a part that fits in the fuel comes to the rest of them. -/
theorem exec_init_of_takes {k : Nat} {done rest : List Micro} (hlcs : s.lcs = .uninitialized) (ha : s.agenda = [])
    (hsteps : initSteps s.cfg mode = done ++ rest) (htakes : Takes k done s t) (hk : k ≤ 188) :
    ∃ n, exec (.init mode) s = .next (settle (n + 4) rest t) := by
  refine ⟨188 - k, ?_⟩
  rw [exec, execInit, if_pos hlcs, hsteps, htakes.run ha (by omega), show 188 - k + 4 = 192 - k by omega]

/-- R109: the blank frame was written. -/
theorem settle_becomesActive (n : Nat) (ha : s.agenda = []) (hok : s.ok = true) :
    settle (n + 4) [.checkWrite, .enterActive, .respond .ok false] s = respond .ok false { s with lcs := .active } := by
  rw [settle_go (t := s) (more := []) ha (by simp [micro, checkWrite, hok]), List.nil_append,
    settle_go (t := { s with lcs := .active }) (more := []) ha rfl, List.nil_append,
    settle_go (s := { s with lcs := .active }) (more := []) ha rfl]
  rfl

/-- R110: a write of the bring-up or of the blank frame failed. -/
theorem settle_givesUp (n : Nat) (rest : List Micro) (ha : s.agenda = []) (hlcs : s.lcs = .configuring)
    (hok : s.ok = false) :
    settle (n + 4) (.checkWrite :: rest) s = respond .transportWriteError false (giveUp s) := by
  rw [settle_abort (t := s) (steps := [.giveUp, .respond .transportWriteError false]) ha
      (by simp [micro, checkWrite, raise, hok, hlcs]),
    settle_go (t := giveUp s) (more := []) ha rfl, List.nil_append,
    settle_go (s := giveUp s) (more := []) ha rfl]
  rfl

/-- R110: an `INIT` that a failed write stops, wherever it is: what was sent before stays sent, and what was acquired is
given back. -/
theorem init_givesUp {k : Nat} {done rest : List Micro} (fb : Store) (hlcs : s.lcs = .uninitialized)
    (hs : s.unhindered) (hsteps : initSteps s.cfg mode = done ++ .checkWrite :: rest) (htakes : Takes k done s t)
    (hk : k ≤ 188) (h : FrameEnded events false answers { configuring mode opens allocs s with fb := fb } t) :
    ∃ u, exec (.init mode) s = .next u ∧ u.trace = s.trace ++ [.openCall true] ++ events ++ [.closeCall] ∧
      u.responses = s.responses ++ [0x30#8] ∧ u.busy = false ∧ u.lcs = .uninitialized ∧ u.len = 96 ∧
      u.opened = false ∧ u.ts = .idle ∧ u.cs = false ∧ u.gh = false ∧ u.guard = .free ∧
      u.writeAnswers = answers ∧ u.cfg = s.cfg := by
  have ha : t.agenda = [] := by rw [h]; exact hs.agenda
  obtain ⟨n, hexec⟩ := exec_init_of_takes hlcs hs.agenda hsteps htakes hk
  rw [settle_givesUp n rest ha (by rw [h]; rfl) (by rw [h])] at hexec
  refine ⟨_, hexec, ?_⟩
  rw [h]
  exact ⟨rfl, rfl, rfl, rfl, rfl, rfl, rfl, rfl, rfl, rfl, rfl, rfl⟩

end

/-! ### The obligations -/

/-- Settles O27: the acquisition, the commands, the clear, the blank frame and `Active`, one part after the other. -/
theorem initBringsTheChipUp : Obligations.InitBringsTheChipUp := by
  intro s mode opens answers hlcs hs hopen halloc hw
  rw [show 9 + lenOf s.cfg mode / 2 = 8 + (1 + lenOf s.cfg mode / 2) by omega, List.replicate_add,
    List.append_assoc] at hw
  obtain ⟨allocs, t, hbringUp, hsent⟩ := takes_bringUp hs hopen halloc mode hw
  obtain ⟨hlen, hunits⟩ := hsent.blankFrame
  have hl : legalLen t.len := hlen ▸ lenOf_legal _ _
  obtain ⟨u, hframe, hended⟩ := settle_frame (hsent.unhindered hs) hl (by rw [hlen, hsent])
  rw [hunits] at hended
  have hfuel : t.len / 2 ≤ 48 := by rcases hl with h | h <;> omega
  have hend := hsent.frameEnded hended
  obtain ⟨n, hexec⟩ := exec_init_of_takes (rest := [.checkWrite, .enterActive, .respond .ok false]) hlcs hs.agenda rfl
    (hbringUp.trans hframe) (by omega)
  rw [settle_becomesActive n (by rw [hend]; exact hs.agenda) (by rw [hend])] at hexec
  refine ⟨_, hexec, ?_⟩
  rw [hend]
  refine ⟨by simp [configuring, acquired], rfl, rfl, rfl, rfl, rfl, rfl, ?_, rfl, rfl, rfl, rfl, rfl, rfl, rfl, rfl, rfl,
    hs.agenda⟩
  exact fbBit_clearCells _ _

/-- Settles O31: the failed command's transaction is the last. -/
theorem initStopsAtAFailedCommand : Obligations.InitStopsAtAFailedCommand := by
  intro s mode k answers hlcs hs hopen halloc hk hw
  obtain ⟨opens, hopens⟩ := List.head?_eq_some_iff.mp hopen
  obtain ⟨allocs, done, rest, t, hsteps, htakes, hended⟩ := takes_failedCommand hs hopens halloc mode hk hw
  obtain ⟨u, hexec, htrace, hrest⟩ := init_givesUp s.fb hlcs hs hsteps htakes (by omega) hended
  exact ⟨u, hexec, by simpa using htrace, hrest⟩

/-- Settles O32: the blank frame's transaction, ended by the failed unit, is the last. -/
theorem initStopsAtAFailedFrameUnit : Obligations.InitStopsAtAFailedFrameUnit := by
  intro s mode k answers hlcs hs hopen halloc hk hw
  obtain ⟨opens, hopens⟩ := List.head?_eq_some_iff.mp hopen
  rw [List.replicate_add, List.append_assoc] at hw
  obtain ⟨allocs, t, hbringUp, hsent⟩ := takes_bringUp hs hopens halloc mode hw
  obtain ⟨hlen, hunits⟩ := hsent.blankFrame
  have hl : legalLen t.len := hlen ▸ lenOf_legal _ _
  obtain ⟨u, hframe, hended⟩ := settle_frame_fails (hsent.unhindered hs) hl (hlen ▸ hk) (by rw [hsent])
  rw [hunits] at hended
  have hfuel : k ≤ 48 := by rcases hl with h | h <;> omega
  obtain ⟨v, hexec, htrace, hrest⟩ := init_givesUp (rest := [.enterActive, .respond .ok false])
    (clearCells (lenOf s.cfg mode) s.fb) hlcs hs rfl (hbringUp.trans hframe) (by omega) (hsent.frameEnded hended)
  exact ⟨v, hexec, by simpa using htrace, hrest⟩

end Sys2Proof.Machine
end

section
/-! SUPPORT. The transaction sequencer (R121 to R127) and the other agents (R132): each step in its phase and outside it,
the rows that need a phase, and the moves of the machine one by one. -/

namespace Sys2Proof.Machine

section
variable {s t : State}

/-! ### The steps of a transaction in their phases and outside them -/

theorem micro_requestGuard_idle (h : s.ts = .idle) :
    micro .requestGuard s = .go (setPhase .wait (emit .guardRequest s)) [] := if_pos h

theorem micro_takeGrant_free (h : s.ts = .wait) (hfree : s.guard = .free) :
    micro .takeGrant s = .go { setPhase .locked (emit .guardGrant s) with guard := .framer } [] := if_pos ⟨h, hfree⟩

theorem micro_assertSelect_locked (h : s.ts = .locked) :
    micro .assertSelect s = .go (setPhase .selected (emit .selectAssert s)) [] := if_pos h

theorem micro_writeStaged_selected (h : s.ts = .selected) : micro .writeStaged s = .go (writeStaging s) [] := if_pos h

theorem micro_deassertSelect_selected (h : s.ts = .selected) :
    micro .deassertSelect s = .go (setPhase .deselected (emit .selectDeassert s)) [] := if_pos h

theorem micro_releaseGuard_deselected (h : s.ts = .deselected) :
    micro .releaseGuard s = .go (forgetFrame { setPhase .idle (emit .guardRelease s) with guard := .free }) [] := if_pos h

/-- R123: the grant is not enabled while the lock is not free, nor before it is asked for. -/
theorem micro_takeGrant_stuck (h : s.guard ≠ .free ∨ s.ts ≠ .wait) : micro .takeGrant s = .stuck :=
  if_neg fun ⟨hwait, hfree⟩ => h.elim (· hfree) (· hwait)

/-- Settles O35: a step's equation in its phase, and the other branch of its precondition. -/
theorem transactionStepsFollowTheTable : Obligations.TransactionStepsFollowTheTable := fun s =>
  ⟨fun h => ⟨_, micro_requestGuard_idle h, rfl, rfl, rfl⟩,
    fun h hfree => ⟨_, micro_takeGrant_free h hfree, rfl, rfl, rfl, rfl⟩,
    fun h => ⟨_, micro_assertSelect_locked h, rfl, rfl, rfl, rfl⟩,
    fun h => ⟨_, micro_deassertSelect_selected h, rfl, rfl, rfl, rfl⟩,
    fun h => ⟨_, micro_releaseGuard_deselected h, rfl, rfl, rfl, rfl⟩,
    fun h => ⟨_, micro_writeStaged_selected h, by simp [h], by simp, by simp⟩,
    micro_takeGrant_stuck, fun h => if_neg h, fun h => if_neg h, fun h => ⟨if_neg h, if_neg h⟩, fun h => if_neg h⟩

/-! ### The rows that need a phase -/

/-- Settles O17: every command row is the CMD of its opcode, which needs `T_IDLE`. -/
theorem commandRowsNeedAnIdleSequencer : Obligations.CommandRowsNeedAnIdleSequencer := by
  intro s i opcode hi hts
  rw [exec_commandRow hi, command, if_neg hts]

/-- Every frame row is one unit (R92, R94, R95). -/
theorem exec_frameRow {i : Instr} {unit : List Byte} (h : frameRowUnit s.cfg i = some unit) :
    ∃ m, exec i s = frameUnit m s := by
  cases i
  case hdrw | datb | datbLast => exact ⟨_, rfl⟩
  all_goals cases h

/-- Settles O26: every frame row is one unit, which needs `T_SELECTED`. -/
theorem frameRowsNeedAnOpenTransaction : Obligations.FrameRowsNeedAnOpenTransaction := by
  intro s i unit hi hts
  obtain ⟨m, hm⟩ := exec_frameRow hi
  rw [hm, frameUnit, if_neg hts]

/-! ### Whose move it is -/

theorem step_otherTakes {turns : List Turn} (ha : s.agenda = .otherTakes :: turns) :
    step s = .next (otherTakes { s with agenda := turns }) := by simp only [step, ha]

theorem step_otherReleases {turns : List Turn} (ha : s.agenda = .otherReleases :: turns) :
    step s = .next (otherReleases { s with agenda := turns }) := by simp only [step, ha]

theorem step_framer {turns : List Turn} (ha : s.agenda = .framer :: turns) : step s = framerMove s := by
  simp only [step, ha]

theorem step_alone (ha : s.agenda = []) : step s = framerMove s := by simp only [step, ha]

/-- Settles O39: the move takes a free lock or gives back the other user's, and does nothing with any other. -/
theorem otherUsersMoveOnlyTheLock : Obligations.OtherUsersMoveOnlyTheLock := by
  intro s turns
  constructor <;> intro ha
  · refine ⟨_, step_otherTakes ha, ?_, ?_⟩
    · obtain ⟨owner, e, -⟩ := otherTakes_eq { s with agenda := turns }
      rw [e]
    · cases s.guard <;> simp [otherTakes]
  · refine ⟨_, step_otherReleases ha, ?_, ?_⟩
    · obtain ⟨owner, e, -⟩ := otherReleases_eq { s with agenda := turns }
      rw [e]
    · cases s.guard <;> simp [otherReleases]

/-! ### The framer's move -/

theorem dropTurn_alone (ha : s.agenda = []) : dropTurn s = s := by simp only [dropTurn, ha]

theorem dropTurn_framer {turns : List Turn} (ha : s.agenda = .framer :: turns) :
    dropTurn s = { s with agenda := turns } := by simp only [dropTurn, ha]

/-- R131: with no request in progress and the port free, the next word is accepted. -/
theorem framerMove_accept {w : Word} {rest : List Word} (hp : s.pending = []) (hb : s.busy = false)
    (hr : s.requests = w :: rest) : framerMove s = exec (decodeRequest w) (accept rest s) := by
  simp [framerMove, hp, hb, hr]

/-- R131: with no request in progress, a taken port or no word leaves the framer waiting. -/
theorem framerMove_waits (hp : s.pending = []) (h : s.busy = true ∨ s.requests = []) :
    framerMove s = .next (dropTurn s) := by
  rw [framerMove, if_pos hp]
  rcases h with h | h
  · rw [if_pos h]
  · rw [h, ite_self]

theorem framerMove_resume (hp : s.pending ≠ []) : framerMove s = .next (resume s) := if_neg hp

/-- What a step of the machine can be: no more than a turn used up and a move of the lock by another user; the reset of
an idle block; the acceptance of a request word; or the next steps of a request in progress (R3, R131, R132, R155). -/
theorem step_cases (he : step s = .next t) :
    (∃ turns owner, t = { s with agenda := turns, guard := owner }) ∨
    (s.busy = false ∧ ∃ turns, t = applyReset { s with agenda := turns }) ∨
    (s.busy = false ∧ ∃ w rest, exec (decodeRequest w) (accept rest s) = .next t) ∨
    t = resume s := by
  have hframer (he : framerMove s = .next t) :
      (∃ turns owner, t = { s with agenda := turns, guard := owner }) ∨
      (s.busy = false ∧ ∃ w rest, exec (decodeRequest w) (accept rest s) = .next t) ∨ t = resume s := by
    by_cases hp : s.pending = []
    · by_cases hwait : s.busy = true ∨ s.requests = []
      · obtain ⟨turns, e⟩ := dropTurn_eq s
        rw [framerMove_waits hp hwait, e] at he
        cases he
        exact .inl ⟨turns, s.guard, rfl⟩
      · rw [not_or, Bool.not_eq_true] at hwait
        obtain ⟨hb, hr⟩ := hwait
        obtain ⟨w, rest, hr⟩ := List.exists_cons_of_ne_nil hr
        rw [framerMove_accept hp hb hr] at he
        exact .inr (.inl ⟨hb, w, rest, he⟩)
    · rw [framerMove_resume hp] at he
      cases he
      exact .inr (.inr rfl)
  unfold step at he
  split at he
  next turns _ =>
    cases he
    obtain ⟨owner, e, -⟩ := otherTakes_eq { s with agenda := turns }
    exact .inl ⟨turns, owner, e⟩
  next turns _ =>
    cases he
    obtain ⟨owner, e, -⟩ := otherReleases_eq { s with agenda := turns }
    exact .inl ⟨turns, owner, e⟩
  next turns _ =>
    cases he
    exact .inl ⟨turns, s.guard, rfl⟩
  next turns _ =>
    split at he
    · cases he
    next hb =>
      cases he
      exact .inr (.inl ⟨Bool.eq_false_of_not_eq_true hb, turns, rfl⟩)
  all_goals exact (hframer he).imp_right .inr

end

end Sys2Proof.Machine
end

section
/-! SUPPORT. The records: no step takes back an event or a response, changes the parameters, or takes a word off the port
otherwise than by accepting it (R120, R131, R155). -/

namespace Sys2Proof.Machine

/-- What the agents' moves leave of the parameters, the host's words, the trace and the responses: they only append to
the last two. -/
structure RecordsKept (s t : State) : Prop where
  cfg : t.cfg = s.cfg
  requests : t.requests = s.requests
  trace : s.trace <+: t.trace
  responses : s.responses <+: t.responses

section
variable {s t u : State}

theorem RecordsKept.trans (h : RecordsKept s t) (k : RecordsKept t u) : RecordsKept s u :=
  ⟨k.cfg.trans h.cfg, k.requests.trans h.requests, h.trace.trans k.trace, h.responses.trans k.responses⟩

/-- Where all four are the same. -/
theorem RecordsKept.of_same (hcfg : t.cfg = s.cfg) (hrequests : t.requests = s.requests) (htrace : t.trace = s.trace)
    (hresponses : t.responses = s.responses) : RecordsKept s t :=
  ⟨hcfg, hrequests, htrace ▸ List.prefix_rfl, hresponses ▸ List.prefix_rfl⟩

theorem Kept.recordsKept (h : Kept s t) : RecordsKept s t := ⟨h.cfg, h.requests, h.trace, h.responses⟩

/-- A step of the framer keeps the records. -/
theorem RecordsKept.micro {m : Micro} {rest : List Micro} (h : RecordsKept s t) :
    (micro m t).Keeps (fun _ => RecordsKept s) rest := by
  have hk := kept_micro m t
  cases hm : Machine.micro m t with
  | go u more => exact h.trans (hk u (by rw [hm]; rfl)).recordsKept
  | abort u steps => exact h.trans (hk u (by rw [hm]; rfl)).recordsKept
  | stuck => trivial

theorem RecordsKept.others (h : RecordsKept s t) (turns : List Turn) (owner : Guard) :
    RecordsKept s { t with agenda := turns, guard := owner } := h.trans (.of_same rfl rfl rfl rfl)

theorem RecordsKept.otherTakes (h : RecordsKept s t) : RecordsKept s (otherTakes t) := by
  obtain ⟨owner, e, -⟩ := otherTakes_eq t
  exact e ▸ h.others t.agenda owner

theorem RecordsKept.otherReleases (h : RecordsKept s t) : RecordsKept s (otherReleases t) := by
  obtain ⟨owner, e, -⟩ := otherReleases_eq t
  exact e ▸ h.others t.agenda owner

/-- Carrying out steps keeps the records, however the agents' moves interleave. -/
theorem recordsKept_run (steps : List Micro) (s : State) : RecordsKept s (run steps s) := by
  obtain ⟨rest, t, ht, e⟩ := settle_keeps (P := fun _ => RecordsKept s) (fun turns h => h.others turns _)
    RecordsKept.otherTakes RecordsKept.otherReleases RecordsKept.micro (fuelFor s)
    (steps := steps) (.of_same rfl rfl rfl rfl)
  rw [run, e]
  exact ht.trans (.of_same rfl rfl rfl rfl)

theorem recordsKept_resume (s : State) : RecordsKept s (resume s) :=
  have hrun := recordsKept_run s.pending { s with pending := [] }
  ⟨hrun.cfg, hrun.requests, hrun.trace, hrun.responses⟩

/-- Carrying out a request keeps the records: it answers at once, releases the transport, or is steps of the framer. -/
theorem recordsKept_exec {i : Instr} (hi : i.isRequest = true) (he : exec i s = .next t) : RecordsKept s t := by
  rcases exec_request_cases hi s with ⟨status, bit, fb, e⟩ | ⟨-, e⟩ | ⟨steps, e, -⟩
  all_goals
    rw [e] at he
    cases he
  · exact ⟨rfl, rfl, List.prefix_rfl, List.prefix_append _ _⟩
  · exact ⟨rfl, rfl, List.prefix_append _ _, List.prefix_append _ _⟩
  · exact recordsKept_run steps s

end

/-- Settles O46: whatever the step is, it keeps the records; acceptance changes none of them but the words to come. -/
theorem stepsOnlyAppendToTheRecords : Obligations.StepsOnlyAppendToTheRecords := by
  intro s t he
  rcases step_cases he with ⟨turns, owner, rfl⟩ | ⟨-, turns, rfl⟩ | ⟨-, w, rest, he⟩ | rfl
  · exact ⟨List.prefix_rfl, List.prefix_rfl, rfl⟩
  · exact ⟨List.prefix_rfl, List.prefix_rfl, rfl⟩
  · have hkept := recordsKept_exec (decodeRequest_isRequest w) he
    obtain ⟨turns, hdrop⟩ := dropTurn_eq s
    rw [accept, hdrop] at hkept
    exact ⟨hkept.trace, hkept.responses, hkept.cfg⟩
  · have hkept := recordsKept_resume s
    exact ⟨hkept.trace, hkept.responses, hkept.cfg⟩

/-- While `BUSY = 1` no word is taken, whosever move it is (R131). -/
theorem step_busy_requests {s t : State} (hb : s.busy = true) (he : step s = .next t) : t.requests = s.requests := by
  rcases step_cases he with ⟨turns, owner, rfl⟩ | ⟨hidle, -⟩ | ⟨hidle, -⟩ | rfl
  · rfl
  · simp [hb] at hidle
  · simp [hb] at hidle
  · exact (recordsKept_resume s).requests

/-- Settles O41: the branches of the framer's move, with and without a turn on the agenda. -/
theorem stepRunsTheDecodedRequest : Obligations.StepRunsTheDecodedRequest := by
  intro s
  refine ⟨fun w rest hp ha hb hr => ?_, fun w rest turns hp ha hb hr => ?_, fun hp ha _ hr => ?_, fun hp ha hb => ?_,
    fun hp ha => ?_, fun hb t => step_busy_requests hb⟩
  · rw [step_alone ha, framerMove_accept hp hb hr, accept, dropTurn_alone ha]
  · rw [step_framer ha, framerMove_accept hp hb hr, accept, dropTurn_framer ha]
  · rw [step_alone ha, framerMove_waits hp (.inr hr), dropTurn_alone ha]
  · rw [step_alone ha, framerMove_waits hp (.inl hb), dropTurn_alone ha]
  · rw [step_alone ha, framerMove_resume hp, resume]

end Sys2Proof.Machine
end

section
/-! SUPPORT. Waiting for the lock (R123, R129): what a request does up to its request for the lock is the same whoever owns
the lock; it then waits, and from the freed lock it goes on as from one that was free from the start. -/

namespace Sys2Proof.Machine

/-! ### The lock in another hand -/

/-- The same state with the lock in the given hand (R23). -/
def State.withOwner (owner : Guard) (s : State) : State := { s with guard := owner }

/-- The same progress with the lock in the given hand. -/
def Progress.withOwner (owner : Guard) : Progress → Progress
  | .go t more => .go (t.withOwner owner) more
  | .abort t steps => .abort (t.withOwner owner) steps
  | .stuck => .stuck

theorem State.withOwner_self {s : State} {owner : Guard} (h : s.guard = owner) : s.withOwner owner = s := by
  subst h
  rfl

theorem drawOpen_withOwner (owner : Guard) (s : State) :
    drawOpen (s.withOwner owner) = ((drawOpen s).1, (drawOpen s).2.withOwner owner) := by
  simp only [drawOpen, State.withOwner]
  cases s.openAnswers <;> rfl

theorem drawAlloc_withOwner (owner : Guard) (s : State) :
    drawAlloc (s.withOwner owner) = ((drawAlloc s).1, (drawAlloc s).2.withOwner owner) := by
  cases hcan : s.cfg.allocCanFail with
  | false => simp [drawAlloc, State.withOwner, hcan]
  | true => cases hanswers : s.allocAnswers <;> simp [drawAlloc, State.withOwner, hcan, hanswers]

theorem allocate_withOwner (owner : Guard) (s : State) :
    allocate (s.withOwner owner) = (allocate s).withOwner owner := by
  rw [allocate, allocate, drawAlloc_withOwner]
  rcases drawAlloc s with ⟨_ | _, t⟩ <;> rfl

/-- An acquisition does not look at the lock (R106, R107). -/
theorem micro_acquire_withOwner (mode : BitVec 8) (owner : Guard) (s : State) :
    micro (.acquire mode) (s.withOwner owner) = (micro (.acquire mode) s).withOwner owner := by
  simp only [micro, acquire, drawOpen_withOwner]
  rcases drawOpen s with ⟨_ | _, t⟩
  · rfl
  · exact allocate_withOwner owner
      { emit (.openCall true) t with opened := true, mode := mode, len := lenOf t.cfg mode }

/-- On `k` moves of the framer, the steps lead from `s` to `t`, whoever owns the lock. -/
def TakesForAnyOwner (k : Nat) (steps : List Micro) (s t : State) : Prop :=
  ∀ owner, Takes k steps (s.withOwner owner) (t.withOwner owner)

section
variable {s t u : State} {j k : Nat} {steps steps' : List Micro}

theorem TakesForAnyOwner.refl (s : State) : TakesForAnyOwner 0 [] s s := fun _ => .refl _

theorem TakesForAnyOwner.trans (h : TakesForAnyOwner j steps s t) (h' : TakesForAnyOwner k steps' t u) :
    TakesForAnyOwner (j + k) (steps ++ steps') s u := fun owner => (h owner).trans (h' owner)

theorem takesForAnyOwner_of_go {m : Micro} (ha : s.agenda = [])
    (hm : ∀ owner, micro m (s.withOwner owner) = .go (t.withOwner owner) []) : TakesForAnyOwner 1 [m] s t :=
  fun owner => takes_of_go ha (hm owner)

/-- The acquisition that is granted, up to `Configuring` (R106, R108). -/
theorem takesForAnyOwner_acquisition {opens : List Bool} (mode : BitVec 8) (ha : s.agenda = [])
    (hopen : s.openAnswers = true :: opens) (halloc : s.cfg.allocCanFail = true → s.allocAnswers.head? = some true) :
    ∃ allocs, TakesForAnyOwner 2 [.acquire mode, .enterConfiguring] s (configuring mode opens allocs s) := by
  obtain ⟨allocs, hacquire⟩ := acquire_granted mode hopen halloc
  have hgo (owner : Guard) : micro (.acquire mode) (s.withOwner owner) =
      .go (State.withOwner owner { acquired mode opens allocs s.fresh s with lcs := .disabled }) [] := by
    rw [micro_acquire_withOwner, hacquire]
    rfl
  exact ⟨allocs, (takesForAnyOwner_of_go ha hgo).trans (takesForAnyOwner_of_go ha fun _ => rfl)⟩

/-- The word of a transaction's first unit staged and the lock asked for (R81, R91, R122). -/
def asking (w : Word) (s : State) : State := setPhase .wait (emit .guardRequest (stageWord w s))

@[simp] theorem asking_trace (w : Word) (s : State) : (asking w s).trace = s.trace ++ [.guardRequest] := by simp [asking]
@[simp] theorem asking_responses (w : Word) (s : State) : (asking w s).responses = s.responses := by simp [asking]
@[simp] theorem asking_busy (w : Word) (s : State) : (asking w s).busy = s.busy := by simp [asking]
@[simp] theorem asking_ts (w : Word) (s : State) : (asking w s).ts = .wait := rfl

theorem takesForAnyOwner_asking {stage : Micro} {w : Word} (hts : s.ts = .idle) (ha : s.agenda = [])
    (hstage : ∀ owner, micro stage (s.withOwner owner) = .go (stageWord w (s.withOwner owner)) []) :
    TakesForAnyOwner 2 [stage, .requestGuard] s (asking w s) :=
  (takesForAnyOwner_of_go (t := stageWord w s) ha hstage).trans
    (takesForAnyOwner_of_go ha fun _ => micro_requestGuard_idle (s := (stageWord w s).withOwner _) hts)

end

/-! ### Waiting and going on -/

/-- A request's steps lead, whoever owns the lock, to `w`, which has asked for it; the grant is next, and then the `rest`
leads to the response. -/
structure ComesToWait (steps rest : List Micro) (s w : State) : Prop where
  takes : ∃ k done, steps = done ++ .takeGrant :: rest ∧ k + weights (.takeGrant :: rest) < 192 ∧
    TakesForAnyOwner k done s w
  leads : ∃ l, leadsToResponse (.takeGrant :: rest) (.wait, l) = true
  alone_before : s.agenda = []
  phase : InPhase .wait (w.withOwner .free)
  alone : w.agenda = []
  none_aside : w.pending = []
  len_legal : legalLen w.len

/-- The state a request waits in while another user has the lock (R123). -/
def waiting (rest : List Micro) (w : State) : State := suspend (.takeGrant :: rest) (w.withOwner .other)

section
variable (rest : List Micro) (w : State)

@[simp] theorem waiting_trace : (waiting rest w).trace = w.trace := rfl
@[simp] theorem waiting_responses : (waiting rest w).responses = w.responses := rfl
@[simp] theorem waiting_busy : (waiting rest w).busy = w.busy := rfl
@[simp] theorem waiting_ts : (waiting rest w).ts = w.ts := rfl
@[simp] theorem waiting_guard : (waiting rest w).guard = .other := rfl

end

theorem resume_waiting {rest : List Micro} {w : State} (owner : Guard) (hp : w.pending = []) :
    resume ((waiting rest w).withOwner owner) = run (.takeGrant :: rest) (w.withOwner owner) := by
  simp [resume, waiting, suspend, State.withOwner, hp]

/-- R123: with the lock another user's, the grant waits. -/
theorem settle_takeGrant_other {n : Nat} {rest : List Micro} {w : State} (ha : w.agenda = []) :
    settle (n + 1) (.takeGrant :: rest) (w.withOwner .other) = waiting rest w :=
  settle_stuck ha (micro_takeGrant_stuck (.inl nofun))

theorem run_takeGrant_other {rest : List Micro} {w : State} (ha : w.agenda = []) :
    run (.takeGrant :: rest) (w.withOwner .other) = waiting rest w := by
  have hfuel : fuelFor (w.withOwner .other) = 191 + 1 := congrArg (192 + ·.length) ha
  rw [run, hfuel, settle_takeGrant_other ha]

section
variable {s w : State} {steps rest : List Micro}

theorem ComesToWait.run_other (h : ComesToWait steps rest s w) : run steps (s.withOwner .other) = waiting rest w := by
  obtain ⟨k, done, rfl, hk, htakes⟩ := h.takes
  rw [(htakes .other).run h.alone_before (by omega), show 192 - k = 191 - k + 1 by omega]
  exact settle_takeGrant_other h.alone

/-- The framer's move on a request that waited, with the lock in any hand. -/
theorem ComesToWait.step_waiting (h : ComesToWait steps rest s w) (owner : Guard) :
    step ((waiting rest w).withOwner owner) = .next (run (.takeGrant :: rest) (w.withOwner owner)) := by
  have ha : ((waiting rest w).withOwner owner).agenda = [] := h.alone
  have hp : ((waiting rest w).withOwner owner).pending ≠ [] := by simp [waiting, State.withOwner]
  rw [step_alone ha, framerMove_resume hp, resume_waiting owner h.none_aside]

/-- R123: a waiting request has no step while another user has the lock. -/
theorem ComesToWait.step_other (h : ComesToWait steps rest s w) : step (waiting rest w) = .next (waiting rest w) :=
  (h.step_waiting .other).trans (congrArg _ (run_takeGrant_other h.alone))

/-- R129: on a lock free from the start the request ends as it does when it goes on from the freed lock; the fuel is
enough for both (log 19). -/
theorem ComesToWait.run_free (h : ComesToWait steps rest s w) :
    run steps (s.withOwner .free) = run (.takeGrant :: rest) (w.withOwner .free) := by
  obtain ⟨k, done, rfl, hk, htakes⟩ := h.takes
  have ha : (w.withOwner .free).agenda = [] := h.alone
  have hleft := stepsLeft_le (.takeGrant :: rest) (w.withOwner .free)
  rw [(htakes .free).run h.alone_before (by omega), run, fuelFor, ha, List.length_nil,
    show 192 + 0 = 192 - k + k by omega]
  exact (settle_fuel_eq (s := w.withOwner .free) h.len_legal (by rw [ha, List.length_nil]; omega)).symm

/-- From the freed lock the request goes on to its one response (R61, R129). -/
theorem ComesToWait.answers (h : ComesToWait steps rest s w) :
    Answering (w.withOwner .free) [] (run (.takeGrant :: rest) (w.withOwner .free)) ∧
      Kept (w.withOwner .free) (run (.takeGrant :: rest) (w.withOwner .free)) := by
  obtain ⟨k, done, -, hk, -⟩ := h.takes
  obtain ⟨l, hleads⟩ := h.leads
  have hleft := stepsLeft_le (.takeGrant :: rest) (w.withOwner .free)
  exact settle_completes Answering.micro Answering.not_stuck (fuelFor (w.withOwner .free)) h.alone h.len_legal
    (by unfold fuelFor; omega) (.owed .wait l hleads h.phase rfl)

/-- A request whose steps come to wait for the lock waits, and goes on when it is freed (R123, R129). -/
theorem ComesToWait.waits_and_goesOn {i : Instr} (h : ComesToWait steps rest s w) (hg : s.guard = .other)
    (hexec : ∀ owner, exec i (s.withOwner owner) = .next (run steps (s.withOwner owner))) :
    exec i s = .next (waiting rest w) ∧ step (waiting rest w) = .next (waiting rest w) ∧
      ∃ u response, step { waiting rest w with guard := .free } = .next u ∧
        exec i { s with guard := .free } = .next u ∧ u.responses = w.responses ++ [response] ∧
        u.ts = .idle ∧ u.guard = .free ∧ u.pending = [] := by
  have hother := hexec .other
  have hwaits := h.run_other
  rw [State.withOwner_self hg] at hother hwaits
  obtain ⟨hanswer, hkept⟩ := h.answers
  cases hanswer with
  | owed g l hnone => cases hnone
  | given response hp _ hresp =>
    exact ⟨hother.trans (congrArg _ hwaits), h.step_other, _, response, h.step_waiting .free,
      (hexec .free).trans (congrArg _ h.run_free), hresp, hp.ts, hp.guard, hkept.pending.trans h.none_aside⟩

end

/-! ### The requests that open transactions -/

theorem weights_append (steps rest : List Micro) : weights (steps ++ rest) = weights steps + weights rest := by
  simp [weights]

section
variable {s v : State} {k : Nat} {steps before rest : List Micro}

/-- What comes to wait: some steps that do not look at the lock and leave the sequencer idle, then the first word staged,
and the request for the lock. -/
theorem comesToWait_asking {stage : Micro} (w : Word) (l : Lifecycle)
    (hbefore : TakesForAnyOwner k before s v) (hs : s.agenda = [])
    (hts : v.ts = .idle) (ha : v.agenda = []) (hp : v.pending = []) (hl : legalLen v.len)
    (hstage : ∀ owner, micro stage (v.withOwner owner) = .go (stageWord w (v.withOwner owner)) [])
    (hsteps : steps = before ++ [stage, .requestGuard] ++ .takeGrant :: rest)
    (hweights : weights steps < 192) (hk : k + 2 ≤ weights (before ++ [stage, .requestGuard]))
    (hleads : leadsToResponse (.takeGrant :: rest) (.wait, l) = true) :
    ComesToWait steps rest s (asking w v) where
  takes := by
    rw [hsteps, weights_append] at hweights
    exact ⟨k + 2, _, hsteps, by omega, hbefore.trans (takesForAnyOwner_asking hts ha hstage)⟩
  leads := ⟨l, hleads⟩
  alone_before := hs
  phase := ⟨rfl, rfl, rfl, rfl⟩
  alone := ha
  none_aside := hp
  len_legal := hl

section
variable (hts : s.ts = .idle) (ha : s.agenda = []) (hp : s.pending = [])
include hts ha hp

theorem brightness_comesToWait (duty : BitVec 8) (hl : legalLen s.len) :
    ∃ rest w, ComesToWait (brightnessSteps s.cfg duty) rest s (asking w s) :=
  ⟨(brightnessSteps s.cfg duty).drop 3, _,
    comesToWait_asking (stage := .stageCommand (pwmOpcode s.cfg (maskDuty duty)))
      (encodeCommand s.cfg (pwmOpcode s.cfg (maskDuty duty))) .active (.refl s) ha hts ha hp hl (fun _ => rfl) rfl
      (weights_brightnessSteps s.cfg duty) (by simp [Micro.weight]) rfl⟩

theorem transmit_comesToWait (hl : legalLen s.len) : ∃ rest w, ComesToWait transmitSteps rest s (asking w s) :=
  ⟨transmitSteps.drop 3, _,
    comesToWait_asking (stage := .stageHeader) (headerWord s.cfg (headerData s.fb)) .active (.refl s) ha hts ha hp hl
      (fun _ => rfl) rfl weights_transmitSteps (by decide) rfl⟩

theorem init_comesToWait {opens : List Bool} (mode : BitVec 8) (hopen : s.openAnswers = true :: opens)
    (halloc : s.cfg.allocCanFail = true → s.allocAnswers.head? = some true) :
    ∃ allocs rest w, ComesToWait (initSteps s.cfg mode) rest s (asking w (configuring mode opens allocs s)) := by
  obtain ⟨allocs, hacquire⟩ := takesForAnyOwner_acquisition mode ha hopen halloc
  exact ⟨allocs, (initSteps s.cfg mode).drop 5, _,
    comesToWait_asking (stage := .stageCommand s.cfg.opcSysDis) (encodeCommand s.cfg s.cfg.opcSysDis) .configuring
      hacquire ha hts ha hp (lenOf_legal _ _) (fun _ => rfl) rfl (weights_initSteps s.cfg mode)
      (by simp [Micro.weight]) rfl⟩

end

end

section
variable (mode : BitVec 8) (opens allocs : List Bool) (s : State)

@[simp] theorem configuring_trace : (configuring mode opens allocs s).trace = s.trace ++ [.openCall true] := by
  simp [configuring, acquired]

@[simp] theorem configuring_responses : (configuring mode opens allocs s).responses = s.responses := by
  simp [configuring, acquired]

@[simp] theorem configuring_busy : (configuring mode opens allocs s).busy = s.busy := by
  simp [configuring, acquired]

end

/-- Settles O36: each of the three requests comes to wait for the lock, `INIT` after its acquisition. -/
theorem waitsForTheLockAndThenGoesOn : Obligations.WaitsForTheLockAndThenGoesOn := by
  intro s i l hi hlcs hl hts hg ha hp hinit
  cases i <;> simp only [Instr.sendsFrom, Option.some.injEq, reduceCtorEq] at hi <;> subst hi
  case setBrightness duty =>
    obtain ⟨rest, w, hwait⟩ := brightness_comesToWait hts ha hp duty hl
    obtain ⟨he, hstep, u, response, hend⟩ := hwait.waits_and_goesOn (i := .setBrightness duty) hg fun _ => if_pos hlcs
    exact ⟨_, u, response, he, fun _ => by simp, nofun, by simp, by simp, by simp, by simp, hstep, by simpa using hend⟩
  case transmitFrame =>
    obtain ⟨rest, w, hwait⟩ := transmit_comesToWait hts ha hp hl
    obtain ⟨he, hstep, u, response, hend⟩ := hwait.waits_and_goesOn (i := .transmitFrame) hg fun _ => if_pos hlcs
    exact ⟨_, u, response, he, fun _ => by simp, nofun, by simp, by simp, by simp, by simp, hstep, by simpa using hend⟩
  case init mode =>
    obtain ⟨hopen, halloc⟩ := hinit mode rfl
    obtain ⟨opens, hopens⟩ := List.head?_eq_some_iff.mp hopen
    obtain ⟨allocs, rest, w, hwait⟩ := init_comesToWait hts ha hp mode hopens halloc
    obtain ⟨he, hstep, u, response, hend⟩ := hwait.waits_and_goesOn (i := .init mode) hg fun _ => if_pos hlcs
    exact ⟨_, u, response, he, fun hn => absurd rfl (hn mode), fun _ _ => by simp, by simp, by simp, by simp, by simp,
      hstep, by simpa using hend⟩

end Sys2Proof.Machine
end

section
/-! SUPPORT. What a request comes to when the state does not accept it, when an `INIT` acquires nothing, and that no
step faults (R135, R136, R139, R140). -/

namespace Sys2Proof.Machine

/-! ### Requests outside their lifecycle state -/

section
variable {s : State}

theorem exec_needsActive_elsewhere {i : Instr} (hi : i.needsActive = true) (hs : s.lcs ≠ .active) :
    exec i s = .next (answer .badState s) := by
  cases i
  case setCell | getCell | clear | transmitFrame | setBrightness => exact if_neg hs
  all_goals cases hi

theorem exec_init_elsewhere (mode : BitVec 8) (hs : s.lcs ≠ .uninitialized) :
    exec (.init mode) s = .next (answer .badState s) := if_neg hs

/-- R113: `CLOSE` is answered OK in every state. -/
theorem exec_close_answersOk (s : State) : ∃ t, exec .close s = .next t ∧ t.responses = s.responses ++ [0x00#8] := by
  by_cases hs : s.lcs = .active
  · exact ⟨_, exec_close_active hs, rfl⟩
  · exact ⟨_, exec_close_inactive hs, rfl⟩

/-! ### An `INIT` that acquires nothing -/

/-- An `INIT` whose acquisition raises an error does what raising it takes, and nothing else (R141). -/
theorem exec_init_of_abort {t : State} {steps : List Micro} {mode : BitVec 8} (hlcs : s.lcs = .uninitialized)
    (ha : s.agenda = []) (hm : micro (.acquire mode) s = .abort t steps) :
    ∃ n, exec (.init mode) s = .next (settle (n + 3) steps t) := by
  obtain ⟨n, hexec⟩ := exec_init_of_takes (mode := mode) (done := []) hlcs ha rfl (.refl s) (by omega)
  exact ⟨n, hexec.trans (congrArg _ (settle_abort ha hm))⟩

/-- R61: the last step of a request is its response. -/
theorem settle_respond (n : Nat) (status : Status) (bit : Bool) (ha : s.agenda = []) :
    settle (n + 2) [.respond status bit] s = respond status bit s :=
  settle_go (t := respond status bit s) (more := []) ha rfl

/-- R110: what was acquired is given back, and then the error is reported. -/
theorem settle_giveUp_respond (n : Nat) (status : Status) (ha : s.agenda = []) :
    settle (n + 3) [.giveUp, .respond status false] s = respond status false (giveUp s) :=
  (settle_go (t := giveUp s) (more := []) ha rfl).trans (settle_respond n status false ha)

/-- R135. -/
theorem micro_acquire_openFailed {opens : List Bool} (mode : BitVec 8) (hopen : s.openAnswers = false :: opens) :
    micro (.acquire mode) s =
      .abort (emit (.openCall false) { s with openAnswers := opens }) [.respond .transportInitError false] := by
  simp [micro, acquire, drawOpen, hopen, raise]

/-- R136. -/
theorem micro_acquire_allocationFailed {opens allocs : List Bool} (mode : BitVec 8) (hcan : s.cfg.allocCanFail = true)
    (hopen : s.openAnswers = true :: opens) (halloc : s.allocAnswers = false :: allocs) :
    micro (.acquire mode) s =
      .abort (acquired mode opens allocs s.fresh s) [.giveUp, .respond .allocationError false] := by
  simp [micro, acquire, drawOpen, hopen, allocate, drawAlloc, hcan, halloc, raise, emit, acquired]

end

/-- Settles O14: each of them is answered at once. -/
theorem requestsInAWrongStateAreAnsweredBadState : Obligations.RequestsInAWrongStateAreAnsweredBadState := fun s =>
  ⟨fun _ hi hs => exec_needsActive_elsewhere hi hs, fun mode hs => exec_init_elsewhere mode hs, exec_close_answersOk s⟩

/-- Settles O29: the error of the failed `open` is raised with nothing to give back. -/
theorem initReportsAFailedOpen : Obligations.InitReportsAFailedOpen := by
  intro s mode opens hlcs ha hopen
  obtain ⟨n, hexec⟩ := exec_init_of_abort hlcs ha (micro_acquire_openFailed mode hopen)
  exact hexec.trans (congrArg _ (settle_respond (n + 1) _ _ ha))

/-- Settles O30: the error of the failed allocation is raised after the transport is given back. -/
theorem initReportsAFailedAllocation : Obligations.InitReportsAFailedAllocation := by
  intro s mode opens allocs hlcs ha hcan hopen halloc
  obtain ⟨n, hexec⟩ := exec_init_of_abort hlcs ha (micro_acquire_allocationFailed mode hcan hopen halloc)
  refine ⟨_, hexec.trans (congrArg _ (settle_giveUp_respond n _ ha)), ?_⟩
  exact ⟨by simp [acquired], rfl, rfl, rfl, rfl, rfl, rfl, rfl, rfl, rfl, rfl, rfl, rfl, rfl⟩

/-! ### No step faults -/

/-- A request is never refused and never faults (R140). -/
theorem exec_request_next {i : Instr} (hi : i.isRequest = true) (s : State) : ∃ t, exec i s = .next t := by
  rcases exec_request_cases hi s with ⟨_, _, _, e⟩ | ⟨_, e⟩ | ⟨_, e, _⟩ <;> exact ⟨_, e⟩

theorem framerMove_next (s : State) : ∃ t, framerMove s = .next t := by
  by_cases hp : s.pending = []
  · by_cases hwait : s.busy = true ∨ s.requests = []
    · exact ⟨_, framerMove_waits hp hwait⟩
    · rw [not_or, Bool.not_eq_true] at hwait
      obtain ⟨hb, hr⟩ := hwait
      obtain ⟨w, rest, hr⟩ := List.exists_cons_of_ne_nil hr
      rw [framerMove_accept hp hb hr]
      exact exec_request_next (decodeRequest_isRequest w) _
  · exact ⟨_, framerMove_resume hp⟩

/-- Settles O42: whosever move it is leads on, but for the reset of a busy block. -/
theorem stepsNeverFaultAndRefuseOnlyABusyReset : Obligations.StepsNeverFaultAndRefuseOnlyABusyReset := by
  intro s
  cases ha : s.agenda with
  | nil => exact .inl (step_alone ha ▸ framerMove_next s)
  | cons turn turns =>
    cases turn with
    | framer => exact .inl (step_framer ha ▸ framerMove_next s)
    | otherTakes => exact .inl ⟨_, step_otherTakes ha⟩
    | otherReleases => exact .inl ⟨_, step_otherReleases ha⟩
    | pause => exact .inl ⟨{ s with agenda := turns }, by simp only [step, ha]⟩
    | reset =>
      cases hb : s.busy with
      | true => exact .inr ⟨rfl, rfl, by simp [step, ha, hb]⟩
      | false => exact .inl ⟨applyReset { s with agenda := turns }, by simp [step, ha, hb]⟩

end Sys2Proof.Machine
end

section
/-! SUPPORT. Other users of the lock (R129, R132, R143): what the framer does under a schedule is what it does
alone, step by step, but that its grant waits while another user has the lock. -/

namespace Sys2Proof.Machine

/-! ### The framer with nobody else on the bus -/

/-- The lock with the other users' hold of it taken away. -/
def Guard.alone : Guard → Guard
  | .framer => .framer
  | .free => .free
  | .other => .free

/-- The state with nobody but the framer to move and no other user on the lock. With `tidy`, the two flags follow the
phase (R19), which they need not do in a state before its first transaction. -/
def State.alone (tidy : Bool) (s : State) : State :=
  { s with
    agenda := [], guard := s.guard.alone
    cs := if tidy then csOf s.ts else s.cs
    gh := if tidy then ghOf s.ts else s.gh }

/-- The same progress with nobody else on the bus. -/
def Progress.alone (tidy : Bool) : Progress → Progress
  | .go t more => .go (t.alone tidy) more
  | .abort t steps => .abort (t.alone tidy) steps
  | .stuck => .stuck

section
variable (tidy : Bool) (s : State)

@[simp] theorem alone_ts : (s.alone tidy).ts = s.ts := rfl
@[simp] theorem alone_acc : (s.alone tidy).acc = s.acc := rfl
@[simp] theorem alone_openAnswers : (s.alone tidy).openAnswers = s.openAnswers := rfl
@[simp] theorem alone_allocAnswers : (s.alone tidy).allocAnswers = s.allocAnswers := rfl
@[simp] theorem alone_writeAnswers : (s.alone tidy).writeAnswers = s.writeAnswers := rfl
@[simp] theorem alone_cfg : (s.alone tidy).cfg = s.cfg := rfl
@[simp] theorem alone_ok : (s.alone tidy).ok = s.ok := rfl

theorem alone_free {s : State} (h : s.guard ≠ .framer) : s.alone false = { s with agenda := [], guard := .free } := by
  cases hg : s.guard <;> simp_all [State.alone, Guard.alone]

theorem otherTakes_alone : (otherTakes s).alone tidy = s.alone tidy := by
  cases hg : s.guard <;> simp [otherTakes, State.alone, Guard.alone, hg]

theorem otherReleases_alone : (otherReleases s).alone tidy = s.alone tidy := by
  cases hg : s.guard <;> simp [otherReleases, State.alone, Guard.alone, hg]

theorem drawOpen_alone : drawOpen (s.alone tidy) = ((drawOpen s).1, (drawOpen s).2.alone tidy) := by
  rw [drawOpen, drawOpen, alone_openAnswers]
  cases s.openAnswers <;> rfl

theorem drawAlloc_alone : drawAlloc (s.alone tidy) = ((drawAlloc s).1, (drawAlloc s).2.alone tidy) := by
  rw [drawAlloc, drawAlloc, alone_cfg, alone_allocAnswers]
  split
  · cases s.allocAnswers <;> rfl
  · rfl

theorem drawWrite_alone : drawWrite (s.alone tidy) = ((drawWrite s).1, (drawWrite s).2.alone tidy) := by
  rw [drawWrite, drawWrite, alone_writeAnswers]
  cases s.writeAnswers <;> rfl

theorem writeUnit_alone (bytes : List Byte) : writeUnit bytes (s.alone tidy) = (writeUnit bytes s).alone tidy := by
  rw [writeUnit, drawWrite_alone]
  rfl

theorem writeStaging_alone : writeStaging (s.alone tidy) = (writeStaging s).alone tidy :=
  congrArg forgetStaging (writeUnit_alone tidy s _)

theorem sendHeaderUnit_alone : sendHeaderUnit (s.alone tidy) = (sendHeaderUnit s).alone tidy := by
  rw [sendHeaderUnit, writeStaging_alone]
  rfl

theorem sendAccumulator_alone : sendAccumulator (s.alone tidy) = (sendAccumulator s).alone tidy := by
  rw [sendAccumulator, sendAccumulator, alone_acc, writeUnit_alone]
  generalize writeUnit [s.acc] s = t
  show (if (t.ok && t.nb == 8) = true then _ else t.alone tidy) = _
  split <;> rfl

theorem allocate_alone : allocate (s.alone tidy) = (allocate s).alone tidy := by
  rw [allocate, allocate, drawAlloc_alone]
  rcases drawAlloc s with ⟨_ | _, t⟩ <;> rfl

theorem acquire_alone (mode : BitVec 8) : acquire mode (s.alone tidy) = (acquire mode s).alone tidy := by
  rw [acquire, acquire, drawOpen_alone]
  rcases drawOpen s with ⟨_ | _, t⟩
  · rfl
  · exact allocate_alone tidy { emit (.openCall true) t with opened := true, mode := mode, len := lenOf t.cfg mode }

/-- A step with a precondition the two states agree on. -/
theorem Progress.alone_ite {c : Prop} [Decidable c] {s t : State} {tidy : Bool} {more : List Micro}
    (h : t = s.alone tidy) :
    (if c then Progress.go t more else .stuck) = (if c then Progress.go s more else .stuck : Progress).alone tidy := by
  subst h
  split <;> rfl

/-- A step of the framer is the one it takes alone, but for a grant that waits for another user's lock (R123). -/
theorem micro_alone (m : Micro) : micro m (s.alone tidy) = (micro m s).alone tidy ∨
    m = .takeGrant ∧ s.ts = .wait ∧ s.guard ≠ .free ∧ micro m s = .stuck := by
  cases m
  case takeGrant =>
    by_cases hts : s.ts = .wait
    · by_cases hg : s.guard = .free
      · left
        have hfree : (s.alone tidy).guard = .free := by simp [State.alone, Guard.alone, hg]
        rw [micro_takeGrant_free hts hg, micro_takeGrant_free (s := s.alone tidy) hts hfree]
        cases tidy <;> rfl
      · exact .inr ⟨rfl, hts, hg, micro_takeGrant_stuck (.inl hg)⟩
    · left
      rw [micro_takeGrant_stuck (.inr hts), micro_takeGrant_stuck (s := s.alone tidy) (.inr hts)]
      rfl
  all_goals left
  case acquire mode => exact acquire_alone tidy s mode
  case stageCommand | stageCommonsMode | stageHeader | enterConfiguring | clearStore | enterActive | giveUp | respond =>
    rfl
  case requestGuard | assertSelect | deassertSelect | releaseGuard => exact Progress.alone_ite (by cases tidy <;> rfl)
  case writeStaged => exact Progress.alone_ite (writeStaging_alone tidy s)
  case checkWrite =>
    show checkWrite _ = (checkWrite s).alone tidy
    rw [checkWrite, checkWrite, alone_ok]
    split <;> rfl
  case sendHeader data => exact Progress.alone_ite (sendHeaderUnit_alone tidy (stageWord (headerWord s.cfg data) s))
  case sendByte byte bits => exact Progress.alone_ite (sendAccumulator_alone tidy { s with acc := byte, nb := bits })
  case writeHeader =>
    show writeHeader _ = (writeHeader s).alone tidy
    rw [writeHeader, writeHeader, sendHeaderUnit_alone]
    exact Progress.alone_ite rfl
  case writeData =>
    have hsend := sendAccumulator_alone tidy (loadAccumulator s)
    show writeData _ = (writeData s).alone tidy
    simp only [writeData, show loadAccumulator (s.alone tidy) = (loadAccumulator s).alone tidy from rfl, hsend]
    exact Progress.alone_ite rfl

end

/-! ### Where the framer stops under a schedule without a pause or a reset -/

theorem otherTakes_agenda (s : State) : (otherTakes s).agenda = s.agenda := by
  obtain ⟨owner, e, -⟩ := otherTakes_eq s
  rw [e]

theorem otherReleases_agenda (s : State) : (otherReleases s).agenda = s.agenda := by
  obtain ⟨owner, e, -⟩ := otherReleases_eq s
  rw [e]

/-- Another user's move leaves the framer as many steps. -/
theorem stepsLeft_otherTakes (steps : List Micro) (s : State) : stepsLeft steps (otherTakes s) = stepsLeft steps s := by
  obtain ⟨owner, e, -⟩ := otherTakes_eq s
  rw [e]
  cases steps <;> rfl

theorem stepsLeft_otherReleases (steps : List Micro) (s : State) :
    stepsLeft steps (otherReleases s) = stepsLeft steps s := by
  obtain ⟨owner, e, -⟩ := otherReleases_eq s
  rw [e]
  cases steps <;> rfl

/-- With fuel for it, the framer stops at the end of its steps, or at one that is not enabled when nobody is left to
move; and a property of the steps that remain and the state that the moves of every agent keep holds there. -/
theorem settle_ordinary {P : List Micro → State → Prop}
    (hlen : ∀ {steps s}, P steps s → legalLen s.len)
    (hturn : ∀ {steps s} turns, P steps s → P steps { s with agenda := turns })
    (htakes : ∀ {steps s}, P steps s → P steps (otherTakes s))
    (hreleases : ∀ {steps s}, P steps s → P steps (otherReleases s))
    (hmicro : ∀ {m rest s}, P (m :: rest) s → (micro m s).Keeps P rest) :
    ∀ (n : Nat) {steps : List Micro} {s : State}, s.agenda.all Turn.ordinary = true →
      stepsLeft steps s + s.agenda.length < n → P steps s →
      ∃ rest t, P rest t ∧ settle n steps s = suspend rest t ∧
        ∀ m more, rest = m :: more → t.agenda = [] ∧ micro m t = .stuck
  | 0, _, _, _, hn, _ => by omega
  | _ + 1, [], s, _, _, h => ⟨[], s, h, rfl, nofun⟩
  | n + 1, m :: rest, s, ho, hn, h => by
    have ih {steps s} := @settle_ordinary P hlen hturn htakes hreleases hmicro n steps s
    have next {s' steps t} (ht : (micro m s').state? = some t) (ho' : s'.agenda.all Turn.ordinary = true)
        (hn' : stepsLeft (m :: rest) s' + s'.agenda.length ≤ n) (hlow : stepsLeft steps t < stepsLeft (m :: rest) s')
        (hP : P steps t) := by
      have ha := (kept_micro m s' t ht).agenda
      exact ih (ha ▸ ho') (by rw [ha]; omega) hP
    cases ha : s.agenda with
    | nil =>
      have hk := hmicro h
      have hlow := lowers_micro m rest s (hlen h)
      have hn : stepsLeft (m :: rest) s + s.agenda.length ≤ n := by omega
      simp only [settle, ha]
      cases hm : micro m s <;> rw [hm] at hk hlow
      · exact next (by rw [hm]; rfl) ho hn hlow.1 hk
      · exact next (by rw [hm]; rfl) ho hn hlow.1 hk
      · exact ⟨_, _, h, rfl, fun m' more e => by cases e; exact ⟨ha, hm⟩⟩
    | cons turn turns =>
      have ht := hturn turns h
      rw [ha, List.all_cons, Bool.and_eq_true] at ho
      rw [ha, List.length_cons] at hn
      obtain ⟨hordinary, ho⟩ := ho
      have hn : stepsLeft (m :: rest) { s with agenda := turns } + turns.length < n := by
        show stepsLeft (m :: rest) s + turns.length < n
        omega
      simp only [settle, ha]
      cases turn with
      | otherTakes =>
        exact ih (by rwa [otherTakes_agenda]) (by rwa [otherTakes_agenda, stepsLeft_otherTakes]) (htakes ht)
      | otherReleases =>
        exact ih (by rwa [otherReleases_agenda]) (by rwa [otherReleases_agenda, stepsLeft_otherReleases]) (hreleases ht)
      | pause => cases hordinary
      | reset => cases hordinary
      | framer =>
        have hk := hmicro ht
        have hlow := lowers_micro m rest { s with agenda := turns } (hlen ht)
        cases hm : micro m { s with agenda := turns } <;> simp only [hm] at hk hlow ⊢
        · exact next (by rw [hm]; rfl) ho hn.le hlow.1 hk
        · exact next (by rw [hm]; rfl) ho hn.le hlow.1 hk
        · exact ih ho hn ht

/-! ### A request that other users can only delay -/

/-- The steps that remain of a request begun in `s₀` lead to its response, and the framer alone would end them in
`t₀`. -/
structure Delayed (s₀ t₀ : State) (steps : List Micro) (s : State) : Prop where
  len_legal : legalLen (s.alone false).len
  answering : Answering s₀ steps (s.alone true)
  ends : ∃ n, stepsLeft steps (s.alone false) < n ∧ settle n steps (s.alone false) = t₀

/-- The request waits in `T_WAIT` for a lock another user has, with no response, and the schedule is used up (R129). -/
structure Blocked (s₀ t : State) : Prop where
  unfinished : t.pending ≠ []
  ts : t.ts = .wait
  guard : t.guard = .other
  agenda : t.agenda = []
  responses : t.responses = s₀.responses

section
variable {s₀ t₀ s t : State} {m : Micro} {steps rest : List Micro}

/-- What the framer would do alone is all that counts. -/
theorem Delayed.of_alone (h : Delayed s₀ t₀ steps s) (halone : ∀ tidy, t.alone tidy = s.alone tidy) :
    Delayed s₀ t₀ steps t :=
  ⟨halone false ▸ h.len_legal, halone true ▸ h.answering, halone false ▸ h.ends⟩

/-- A step of the framer brings the request as far as it would alone. -/
theorem Delayed.micro (h : Delayed s₀ t₀ (m :: rest) s) : (micro m s).Keeps (Delayed s₀ t₀) rest := by
  have halone {tidy : Bool} (hm : Machine.micro m s ≠ .stuck) :
      Machine.micro m (s.alone tidy) = (Machine.micro m s).alone tidy :=
    (micro_alone tidy s m).resolve_right fun ⟨_, _, _, hstuck⟩ => hm hstuck
  have hanswer := h.answering.micro
  have hlow := lowers_micro m rest (s.alone false) h.len_legal
  obtain ⟨n, hn, hend⟩ := h.ends
  obtain ⟨k, rfl⟩ := Nat.exists_eq_add_of_lt hn
  cases hm : Machine.micro m s with
  | stuck => trivial
  | go t more =>
    rw [halone (by simp [hm]), hm] at hanswer hlow
    rw [settle_go rfl ((halone (by simp [hm])).trans (congrArg _ hm))] at hend
    exact ⟨hlow.2, hanswer, _, hlow.1.trans_le (Nat.le_add_right _ k), hend⟩
  | abort t steps =>
    rw [halone (by simp [hm]), hm] at hanswer hlow
    rw [settle_abort rfl ((halone (by simp [hm])).trans (congrArg _ hm))] at hend
    exact ⟨hlow.2, hanswer, _, hlow.1.trans_le (Nat.le_add_right _ k), hend⟩

/-- A step of a delayed request that is not enabled is the grant of a lock another user has (R123). -/
theorem Delayed.blocked (h : Delayed s₀ t₀ (m :: rest) s) (ha : s.agenda = []) (hm : Machine.micro m s = .stuck) :
    Blocked s₀ (suspend (m :: rest) s) := by
  rcases micro_alone true s m with halone | ⟨rfl, hts, hfree, -⟩
  · exact absurd (halone.trans (congrArg _ hm)) h.answering.not_stuck
  · cases h.answering with
    | owed g l hleads hphase hresp =>
      have howner := hphase.guard
      rw [← hphase.ts, alone_ts, hts] at howner
      have hother : s.guard = .other := by cases hg : s.guard <;> simp_all [State.alone, Guard.alone, ghOf]
      exact ⟨by simp, hts, hother, ha, hresp⟩

/-- At the end of its steps a delayed request is where it would have come alone. -/
theorem Delayed.ended (h : Delayed s₀ t₀ [] s) : s.alone false = t₀ := by
  obtain ⟨n, hn, hend⟩ := h.ends
  obtain ⟨k, rfl⟩ := Nat.exists_eq_add_of_lt hn
  exact hend

end

/-- Between transactions, with the lock not the framer's. -/
theorem inPhase_alone {s : State} (hts : s.ts = .idle) (hg : s.guard ≠ .framer) : InPhase .idle (s.alone true) := by
  rw [← hts]
  refine ⟨rfl, rfl, rfl, ?_⟩
  cases h : s.guard <;> simp_all [State.alone, Guard.alone, ghOf]

/-- The fuel is enough for a request's steps and the turns of the agenda (log 19). -/
theorem stepsLeft_lt_fuelFor {steps : List Micro} (s : State) (hfuel : weights steps < 192) :
    stepsLeft steps s + s.agenda.length < fuelFor s :=
  Nat.add_lt_add_right ((stepsLeft_le steps s).trans_lt hfuel) _

/-- The steps of a request under a schedule without a pause or a reset: they wait for another user's lock, or come to
where the framer alone would bring them. -/
theorem run_blocked_or_alone {s : State} {steps : List Micro} {l : Lifecycle} (hts : s.ts = .idle)
    (hg : s.guard ≠ .framer) (hl : legalLen s.len) (ho : s.agenda.all Turn.ordinary = true)
    (hleads : leadsToResponse steps (.idle, l) = true) (hfuel : weights steps < 192) :
    Blocked s (run steps s) ∨ (run steps s).alone false = run steps (s.alone false) := by
  have hbegun : Delayed s (run steps (s.alone false)) steps s :=
    ⟨hl, .owed .idle l hleads (inPhase_alone hts hg) rfl, _, stepsLeft_lt_fuelFor (s.alone false) hfuel, rfl⟩
  obtain ⟨rest, t, ht, e, hstop⟩ := settle_ordinary (P := Delayed s (run steps (s.alone false))) Delayed.len_legal
    (fun turns h => h.of_alone fun _ => rfl) (fun h => h.of_alone fun tidy => otherTakes_alone tidy _)
    (fun h => h.of_alone fun tidy => otherReleases_alone tidy _) Delayed.micro (fuelFor s) ho
    (stepsLeft_lt_fuelFor s hfuel) hbegun
  rw [show run steps s = suspend rest t from e]
  cases rest with
  | nil => exact .inr ht.ended
  | cons m rest =>
    obtain ⟨ha, hm⟩ := hstop m rest rfl
    exact .inl (ht.blocked ha hm)

/-- The same of a request, which may be answered at once. -/
theorem exec_blocked_or_alone {s t : State} {i : Instr} (hi : i.isRequest = true) (hts : s.ts = .idle)
    (hg : s.guard ≠ .framer) (hl : legalLen s.len) (ho : s.agenda.all Turn.ordinary = true) (he : exec i s = .next t) :
    Blocked s t ∨ exec i (s.alone false) = .next (t.alone false) := by
  have runs {steps : List Micro} {l : Lifecycle} (hleads : leadsToResponse steps (.idle, l) = true)
      (hfuel : weights steps < 192) (hrun : exec i s = .next (run steps s))
      (halone : exec i (s.alone false) = .next (run steps (s.alone false))) :
      Blocked s t ∨ exec i (s.alone false) = .next (t.alone false) := by
    rw [hrun] at he
    cases he
    exact (run_blocked_or_alone hts hg hl ho hleads hfuel).imp_right fun e => halone.trans (congrArg _ e.symm)
  have atOnce {u : State} (hu : exec i s = .next u) (halone : exec i (s.alone false) = .next (u.alone false)) :
      Blocked s t ∨ exec i (s.alone false) = .next (t.alone false) := by
    rw [hu] at he
    cases he
    exact .inr halone
  cases i
  case init mode =>
    by_cases h : s.lcs = .uninitialized
    · exact runs (leads_initSteps s.cfg mode) (weights_initSteps s.cfg mode) (if_pos h) (if_pos h)
    · exact atOnce (if_neg h) (if_neg h)
  case transmitFrame =>
    by_cases h : s.lcs = .active
    · exact runs leads_transmitSteps weights_transmitSteps (if_pos h) (if_pos h)
    · exact atOnce (if_neg h) (if_neg h)
  case setBrightness duty =>
    by_cases h : s.lcs = .active
    · exact runs (leads_brightnessSteps s.cfg duty) (weights_brightnessSteps s.cfg duty) (if_pos h) (if_pos h)
    · exact atOnce (if_neg h) (if_neg h)
  case close | clear =>
    by_cases h : s.lcs = .active
    · exact atOnce (if_pos h) (if_pos h)
    · exact atOnce (if_neg h) (if_neg h)
  case setCell a b v =>
    by_cases h : s.lcs = .active
    · by_cases hin : inRange s.len a b = true
      · exact atOnce ((if_pos h).trans (if_pos hin)) ((if_pos h).trans (if_pos hin))
      · exact atOnce ((if_pos h).trans (if_neg hin)) ((if_pos h).trans (if_neg hin))
    · exact atOnce (if_neg h) (if_neg h)
  case getCell a b =>
    by_cases h : s.lcs = .active
    · exact atOnce (exec_getCell_active a b h) (exec_getCell_active (s := s.alone false) a b h)
    · exact atOnce (if_neg h) (if_neg h)
  case reserved0 | reserved8 | reserved9 | reservedA | reservedB | reservedC | reservedD | reservedE | reservedF =>
    exact atOnce rfl rfl
  all_goals cases hi

/-- Settles O37: each step of the framer is the one it takes alone, and the others' moves do not matter to it, so the
request waits or ends where it would alone. -/
theorem otherBusUsersNeverChangeAResult : Obligations.OtherBusUsersNeverChangeAResult := by
  intro s t t₀ i hi hts hg _ hl ho he he₀
  rw [← alone_free hg] at he₀
  refine (exec_blocked_or_alone hi hts hg hl ho he).imp (fun h => ?_) fun halone => ?_
  · exact ⟨h.unfinished, h.ts, h.guard, h.agenda, h.responses⟩
  · cases halone.symm.trans he₀
    rfl

end Sys2Proof.Machine
end

section
/-! SUPPORT. The reset input: refused in mid-request; on an idle block it sets the registers to R24's values and touches
nothing outside the block (R24, R155). -/

namespace Sys2Proof.Machine

/-- R155: a reset has no meaning while a request is in progress. -/
theorem step_reset_busy {s : State} {turns : List Turn} (ha : s.agenda = .reset :: turns) (hb : s.busy = true) :
    step s = .refused .resetWhileBusy := by simp only [step, ha, if_pos hb]

/-- R155: an idle block takes the reset, which uses up its turn. -/
theorem step_reset_idle {s : State} {turns : List Turn} (ha : s.agenda = .reset :: turns) (hb : s.busy = false) :
    step s = .next (applyReset { s with agenda := turns }) := by
  simp only [step, ha, hb, Bool.false_eq_true, if_false]

/-- R24: the registers whose reset values are given. -/
theorem applyReset_registers (s : State) :
    (applyReset s).lcs = .uninitialized ∧ (applyReset s).len = 96 ∧ (applyReset s).cs = false ∧
      (applyReset s).gh = false ∧ (applyReset s).ts = .idle ∧ (applyReset s).busy = false :=
  ⟨rfl, rfl, rfl, rfl, rfl, rfl⟩

/-- R155: a reset calls nothing and leaves the records, the transport, the lock and the parameters. -/
theorem applyReset_frame (s : State) :
    (applyReset s).trace = s.trace ∧ (applyReset s).opened = s.opened ∧ (applyReset s).guard = s.guard ∧
      (applyReset s).responses = s.responses ∧ (applyReset s).requests = s.requests ∧ (applyReset s).cfg = s.cfg :=
  ⟨rfl, rfl, rfl, rfl, rfl, rfl⟩

/-- Settles O40: a busy block refuses the reset; an idle one takes it, with `applyReset`'s values and frame. -/
theorem resetSetsTheRegistersAndNothingOutside : Obligations.ResetSetsTheRegistersAndNothingOutside := by
  intro s turns ha
  refine ⟨step_reset_busy ha, fun hb => ⟨_, step_reset_idle ha hb, ?_⟩⟩
  obtain ⟨hlcs, hlen, hcs, hgh, hts, hbusy⟩ := applyReset_registers { s with agenda := turns }
  exact ⟨hlcs, hlen, hcs, hgh, hts, hbusy, applyReset_frame { s with agenda := turns }⟩

end Sys2Proof.Machine
end
